-- ==== Sys2Proof/Word.lean ====
section
/-! DEFINITION. The plain words of the part: bytes, video codes, samples, colours, and tables of fixed length. -/

namespace Sys2Proof

/-- One byte of a notice payload or of the serial store (R155, R169). -/
abbrev Byte := BitVec 8

/-- A video code, 0..65535 (00, "Codes and samples"). -/
abbrev Code := Fin 65536

/-- A sense sample, 0..4095 (00, "Codes and samples"). -/
abbrev Sample := Fin 4096

/-- A timer in ticks: stopped, or the ticks elapsed since it was started (00, "Time"). -/
abbrev Timer := Option Nat

/-- The three emitters of a package (00, "Cells and colours"). -/
inductive Colour
  | r | g | b
  deriving DecidableEq, Repr

/-- The place of a colour in the order R, G, B. -/
def Colour.index : Colour → Nat
  | .r => 0
  | .g => 1
  | .b => 2

/-- A quantity given per colour. -/
structure Rgb (α : Type) where
  r : α
  g : α
  b : α
  deriving DecidableEq, Repr

namespace Rgb

/-- The value of one colour. -/
def get {α : Type} (v : Rgb α) : Colour → α
  | .r => v.r
  | .g => v.g
  | .b => v.b

/-- The quantity whose value for each colour is given. -/
def ofFn {α : Type} (f : Colour → α) : Rgb α := ⟨f .r, f .g, f .b⟩

/-- The same value in all three colours. -/
def all {α : Type} (a : α) : Rgb α := ⟨a, a, a⟩

/-- The values in the order R, G, B. -/
def toList {α : Type} (v : Rgb α) : List α := [v.r, v.g, v.b]

end Rgb

/-- A table of a fixed number of like things: a list with its length. -/
structure Tbl (n : Nat) (α : Type) where
  data : List α
  len : data.length = n
  deriving DecidableEq, Repr

namespace Tbl

variable {n : Nat} {α β : Type}

/-- The element at a place. -/
def get (t : Tbl n α) (i : Fin n) : α := t.data[i.val]'(by rw [t.len]; exact i.isLt)

/-- The table with one place written. -/
def set (t : Tbl n α) (i : Fin n) (a : α) : Tbl n α :=
  ⟨t.data.set i.val a, by rw [List.length_set, t.len]⟩

/-- The table with the same value everywhere. -/
def fill (n : Nat) (a : α) : Tbl n α := ⟨List.replicate n a, List.length_replicate⟩

/-- The table whose elements are given by place. -/
def ofFn (f : Fin n → α) : Tbl n α := ⟨List.ofFn f, List.length_ofFn⟩

/-- Every element changed by the same function. -/
def map (f : α → β) (t : Tbl n α) : Tbl n β := ⟨t.data.map f, by rw [List.length_map, t.len]⟩

end Tbl

end Sys2Proof
end

