-- ==== Sys2Proof/Syntax.lean ====
section
/-! DEFINITION. The names the spec gives to cells, sites, tiles and notices, and the commands of opcode_table.json, one constructor a row. -/

namespace Sys2Proof

/-- A cell, named in the coordinates of the tile it belongs to (R1). -/
structure Cell where
  x : Fin 32
  y : Fin 32
  deriving DecidableEq, Repr

/-- A cell of the window, in the tile's own coordinates extended into the apron: −1..32 (R2). -/
structure ExtCell where
  x : Int
  y : Int
  deriving DecidableEq, Repr

/-- A spare site, named in the coordinates of the tile that owns it (R3). -/
structure Site where
  i : Fin 16
  j : Fin 16
  deriving DecidableEq, Repr

/-- A position as the straps and the notice fields carry it: column 0..127, row 0..63 (R168, section 9.2). -/
structure Pos where
  col : Fin 128
  row : Fin 64
  deriving DecidableEq, Repr

/-- The six directions of neighbours (R8). -/
inductive Dir
  | n | e | s | w | nw | se
  deriving DecidableEq, Repr

/-- The directions of owners of spares this tile borrows (R7). -/
inductive OwnerDir
  | e | s | se
  deriving DecidableEq, Repr

/-- The directions of borrowers of this tile's spares (R7). -/
inductive BorrowerDir
  | w | n | nw
  deriving DecidableEq, Repr

/-- The four edges of a tile (R13). -/
inductive Edge
  | n | e | s | w
  deriving DecidableEq, Repr

/-- The two Link Ports (R153). -/
inductive PortId
  | a | b
  deriving DecidableEq, Repr

/-- A pair of a HOLD_LIST or a LOAN_LIST: the site in the owner's coordinates, the cell in the borrower's (R131, R132). -/
structure LoanPair where
  site : Site
  cell : Cell
  deriving DecidableEq, Repr

/-- What a notice carries, by its kind (section 9.2, R155).
An attempt is carried as the attempt less one; a refusal's reason is its 4-bit code. -/
inductive NoticeBody
  | sectionRestart
  | grant (site : Site) (cell : Cell)
  | refuse (site : Site) (cell : Cell) (reason : Fin 16)
  | wait (site : Site) (cell : Cell)
  | revoke (site : Site) (cell : Cell)
  | release (site : Site) (cell : Cell)
  | claim (cell : Cell) (site : Site) (attemptLessOne : Fin 16)
  | holdList (pairs : List LoanPair)
  | loanList (pairs : List LoanPair)
  | fillList (edge : Edge) (positions : List (Fin 32))
  | serviceRequest (tag : Byte) (command : Byte) (arguments : List Byte)
  | report (tag : Byte) (kind : Byte) (body : List Byte)
  deriving DecidableEq, Repr

/-- A notice on a seam line: source, destination and what it carries (section 9.2). -/
structure Notice where
  src : Pos
  dst : Pos
  body : NoticeBody
  deriving DecidableEq, Repr

/-- Where a received notice was read and whom it names: its port, source and destination. -/
structure Rx where
  port : PortId
  src : Pos
  dst : Pos
  deriving DecidableEq, Repr

/-- The commands of opcode_table.json, in the table's order, one constructor a row. -/
inductive Instr
  /-- POWER_ON, with the levels of the position straps. -/
  | powerOn (straps : Pos)
  /-- RESET_ASSERT. -/
  | resetAssert
  /-- RESET_RELEASE, with the levels of the position straps. -/
  | resetRelease (straps : Pos)
  /-- STORE_READY_AT_LOAD. -/
  | storeReadyAtLoad
  /-- STORE_MISSING_TIMEOUT. -/
  | storeMissingTimeout
  /-- CONFIG_RECORD_READ, with the 32 bytes of the record. -/
  | configRecordRead (bytes : Tbl 32 Byte)
  /-- CALIBRATION_AREA_READ, with the 7680 value bytes and the check. -/
  | calibrationAreaRead (bytes : Tbl 7681 Byte)
  /-- RETIRED_LIST_READ, with the 512 bytes of the 128 slots. -/
  | retiredListRead (bytes : Tbl 512 Byte)
  /-- ENTER_RUN. -/
  | enterRun
  /-- FRAME_BEGIN_MARKER. -/
  | frameBeginMarker
  /-- VIDEO_CODE. -/
  | videoCode (code : Code)
  /-- DRIVE_FRAME_SENT. -/
  | driveFrameSent
  /-- LOSS_TIMER_LOST. -/
  | lossTimerLost
  /-- LOSS_TIMER_DARK. -/
  | lossTimerDark
  /-- RE_EMIT_TICK. -/
  | reEmitTick
  /-- DARK_FRAME_TICK. -/
  | darkFrameTick
  /-- SENSE_REPORT, with its plan number and the samples that came, rows 0..47, R, G, B within a row. -/
  | senseReport (plan : Fin 256) (samples : List Sample)
  /-- STALL_TIMER_EXPIRY. -/
  | stallTimerExpiry
  /-- OVERRIDE_APPEND: the Probe Engine takes the oldest append request. -/
  | overrideAppend
  /-- SUPPLY_LOW. -/
  | supplyLow
  /-- SUPPLY_HIGH. -/
  | supplyHigh
  /-- CELL_VERDICT: the Condition Tracker takes the oldest cell verdict handed to it. -/
  | cellVerdict
  /-- SITE_VERDICT: the Spare Allocator takes the oldest site verdict handed to it. -/
  | siteVerdict
  /-- SWEEP_END: the Seam Agent takes a sweep end sent to it. -/
  | sweepEnd
  /-- CLAIM_RETRY_EXPIRY of the claim for a cell. -/
  | claimRetryExpiry (cell : Cell)
  /-- HOLD_EXPIRY at a site. -/
  | holdExpiry (site : Site)
  /-- NEIGHBOUR_SILENT in a direction. -/
  | neighbourSilent (dir : Dir)
  /-- REFRESH_TIMER_EXPIRY. -/
  | refreshTimerExpiry
  /-- IDLE_GAP_ATTEMPT at a port. -/
  | idleGapAttempt (port : PortId)
  /-- ATTEMPT_WON at a port. -/
  | attemptWon (port : PortId)
  /-- CONTENTION_LOST at a port. -/
  | contentionLost (port : PortId)
  /-- ATTEMPT_FAILED at a port. -/
  | attemptFailed (port : PortId)
  /-- QUIET_TIMER_EXPIRY at a port. -/
  | quietTimerExpiry (port : PortId)
  /-- NOTICE_MALFORMED, with the bits the port read from the first bit to the idle gap. -/
  | noticeMalformed (port : PortId) (bits : List Bool)
  /-- CLAIM_RECEIVED. -/
  | claimReceived (rx : Rx) (cell : Cell) (site : Site) (attemptLessOne : Fin 16)
  /-- GRANT_RECEIVED. -/
  | grantReceived (rx : Rx) (site : Site) (cell : Cell)
  /-- WAIT_RECEIVED. -/
  | waitReceived (rx : Rx) (site : Site) (cell : Cell)
  /-- REFUSE_RECEIVED, with the 4-bit reason code. -/
  | refuseReceived (rx : Rx) (site : Site) (cell : Cell) (reason : Fin 16)
  /-- REVOKE_RECEIVED. -/
  | revokeReceived (rx : Rx) (site : Site) (cell : Cell)
  /-- RELEASE_RECEIVED. -/
  | releaseReceived (rx : Rx) (site : Site) (cell : Cell)
  /-- HOLD_LIST_RECEIVED. -/
  | holdListReceived (rx : Rx) (pairs : List LoanPair)
  /-- LOAN_LIST_RECEIVED. -/
  | loanListReceived (rx : Rx) (pairs : List LoanPair)
  /-- FILL_LIST_RECEIVED. -/
  | fillListReceived (rx : Rx) (edge : Edge) (positions : List (Fin 32))
  /-- REPORT_RECEIVED. -/
  | reportReceived (rx : Rx) (tag : Byte) (kind : Byte) (body : List Byte)
  /-- SECTION_RESTART. -/
  | sectionRestart (rx : Rx)
  /-- QUERY_SUMMARY. -/
  | querySummary (rx : Rx) (tag : Byte)
  /-- QUERY_CELL, with the coordinate bytes x, y. -/
  | queryCell (rx : Rx) (tag : Byte) (x y : Byte)
  /-- QUERY_SITE, with the coordinate bytes i, j. -/
  | querySite (rx : Rx) (tag : Byte) (i j : Byte)
  /-- QUERY_ENTRY, with the position n. -/
  | queryEntry (rx : Rx) (tag : Byte) (n : Byte)
  /-- MARK, with the coordinate bytes x, y. -/
  | mark (rx : Rx) (tag : Byte) (x y : Byte)
  /-- RESTORE, with the coordinate bytes x, y. -/
  | restore (rx : Rx) (tag : Byte) (x y : Byte)
  /-- RESCAN. -/
  | rescan (rx : Rx) (tag : Byte)
  /-- CLEAR_FLAGS. -/
  | clearFlags (rx : Rx) (tag : Byte)
  /-- CLEAR_RETIRED. -/
  | clearRetired (rx : Rx) (tag : Byte)
  /-- SERVICE_REQUEST_UNKNOWN, with the command byte and the argument bytes. -/
  | serviceRequestUnknown (rx : Rx) (tag : Byte) (command : Byte) (arguments : List Byte)
  /-- STORE_WRITE_BEGIN. -/
  | storeWriteBegin
  /-- STORE_WRITE_END: whether the status reports an error, and the four bytes of the slot read back. -/
  | storeWriteEnd (error : Bool) (readBack : Tbl 4 Byte)
  /-- STORE_WRITE_TIMEOUT. -/
  | storeWriteTimeout
  /-- STORE_ERASE_END: whether the status reports an error. -/
  | storeEraseEnd (error : Bool)
  /-- STORE_ERASE_TIMEOUT. -/
  | storeEraseTimeout
  deriving DecidableEq, Repr

end Sys2Proof
end

