-- ==== Sys2Proof/Decode.lean ====
section
/-! DEFINITION. The commands that words of opcode_table.json spell: no row of the table has bits, so none (log entry 22). -/

namespace Sys2Proof

/-- The command a word spells by the table's bits: the table gives no row any bits. -/
def decodeTableWord (_nbits _w : Nat) : Option Instr := none

end Sys2Proof
end

