-- ==== Sys2Proof/Config.lean ====
section
/-! DEFINITION. The configuration of the part (R171), its built-in defaults, and the capacities the spec fixes. The spec leaves no value open after which the part goes on, so there is no free value here. -/

namespace Sys2Proof

/-- The configuration taken at the start load; it holds until the next start (R171). -/
structure Configuration where
  faceWidth : Nat
  faceHeight : Nat
  tDead : Nat
  tWeak : Nat
  tHot : Nat
  lLeak : Nat
  k : Nat
  kDim : Nat
  gMax : Nat
  fillShare : Nat
  probeCode : Nat
  /-- T_ref, in seconds. -/
  tRef : Nat
  settleFrames : Nat
  lending : Bool
  deriving DecidableEq, Repr

/-- The defaults of R171's table. -/
def Configuration.defaults : Configuration where
  faceWidth := 127
  faceHeight := 63
  tDead := 4
  tWeak := 12
  tHot := 24
  lLeak := 96
  k := 3
  kDim := 2
  gMax := 8192
  fillShare := 8
  probeCode := 32768
  tRef := 10
  settleFrames := 8
  lending := true

/-- The refresh interval in ticks, 100 × T_ref (R143). -/
def Configuration.refreshTicks (c : Configuration) : Nat := 100 * c.tRef

/-- The silence limit in ticks, 300 × T_ref (R138). -/
def Configuration.silenceTicks (c : Configuration) : Nat := 300 * c.tRef

namespace Config

/-- Places of the remap table (R62). -/
@[simp] def entryPlaces : Nat := 128
/-- Places of the override list (R34). -/
@[simp] def overridePlaces : Nat := 4
/-- Places of a port's answer queue (R161). -/
@[simp] def answerPlaces : Nat := 4
/-- Places of a port's notice queue (R161). -/
@[simp] def noticePlaces : Nat := 12
/-- Places of the foreign fill list (R147). -/
@[simp] def foreignFillPlaces : Nat := 64
/-- Places of the pending write list (R177). -/
@[simp] def pendingWritePlaces : Nat := 8
/-- Counted frames of a pass (R22). -/
@[simp] def passFrames : Nat := 63
/-- Ticks to LOST (R100). -/
@[simp] def lostTicks : Nat := 10
/-- Ticks from LOST to DARK (R100). -/
@[simp] def darkTicks : Nat := 200
/-- Ticks of the stall timer (R38). -/
@[simp] def stallTicks : Nat := 1000
/-- Ticks of a claim's retry timer (R117). -/
@[simp] def retryTicks : Nat := 25
/-- Attempts of a claim (R117). -/
@[simp] def lastAttempt : Nat := 16
/-- Ticks of a hold (R90). -/
@[simp] def holdTicks : Nat := 500
/-- The most a quiet time counts (R138). -/
@[simp] def quietTimeMost : Nat := 65535
/-- Consecutive failed attempts that make a port QUIET (R158). -/
@[simp] def failLimit : Nat := 8
/-- Ticks a port stays QUIET (R158). -/
@[simp] def portQuietTicks : Nat := 100
/-- Ticks the store is polled at the load (R170). -/
@[simp] def pollTicks : Nat := 100
/-- Ticks a write may take (R178). -/
@[simp] def writeTicks : Nat := 50
/-- Ticks an erase may take (R180). -/
@[simp] def eraseTicks : Nat := 500
/-- The format word this version expects (R171). -/
@[simp] def formatWord : Nat := 0x3201
/-- The sweep count returns to 0 after 16 777 215 (R36). -/
@[simp] def sweepModulus : Nat := 16777216

end Config

end Sys2Proof
end

