-- ==== Sys2Proof/Machine/Bits.lean ====
section
/-! DEFINITION. Bit strings and bytes: fields most significant bit first, multi-byte fields most significant byte first, and the CRC of R156. -/

namespace Sys2Proof.Machine

/-- A field of `w` bits, most significant bit first (section 9.2). -/
def bitsOfNat : Nat → Nat → List Bool
  | 0, _ => []
  | w + 1, v => v.testBit w :: bitsOfNat w v

/-- The number a bit string spells, most significant bit first. -/
def natOfBits (bits : List Bool) : Nat := bits.foldl (fun acc b => 2 * acc + b.toNat) 0

/-- The bits of a byte, most significant first. -/
def bitsOfByte (b : Byte) : List Bool := bitsOfNat 8 b.toNat

/-- The bits of a byte string. -/
def bitsOfBytes (bytes : List Byte) : List Bool := bytes.flatMap bitsOfByte

/-- How many bytes hold so many bits: the last byte is closed with 0 bits (R155). -/
def byteCount (bitCount : Nat) : Nat := (bitCount + 7) / 8

/-- A bit string closed with 0 bits to a whole byte (R155). -/
def closeBits (bits : List Bool) : List Bool :=
  bits ++ List.replicate (8 * byteCount bits.length - bits.length) false

/-- Byte `n` of a bit string; bits beyond its end read as 0. -/
def byteAt (bits : List Bool) (n : Nat) : Byte :=
  BitVec.ofNat 8 (natOfBits ((closeBits bits).drop (8 * n) |>.take 8))

/-- A bit string packed into bytes, closed with 0 bits (R155, R186). -/
def bytesOfBits (bits : List Bool) : List Byte :=
  (List.range (byteCount bits.length)).map (byteAt bits)

/-- The bits `start … start + width − 1` of a bit string. -/
def bitSlice (bits : List Bool) (start width : Nat) : List Bool := (bits.drop start).take width

/-- The number in the bits `start … start + width − 1` of a bit string. -/
def natSlice (bits : List Bool) (start width : Nat) : Nat := natOfBits (bitSlice bits start width)

/-- One bit entering the CRC register, the division by x^8 + x^2 + x + 1 (R156). -/
def crcStep (reg : Byte) (bit : Bool) : Byte :=
  let shifted := reg <<< 1
  if reg.msb != bit then shifted ^^^ 0x07#8 else shifted

/-- The check of a bit string: CRC-8, register from 0, most significant bit first, no final inversion (R156; log entry 11). -/
def crc8 (bits : List Bool) : Byte := bits.foldl crcStep 0#8

/-- The check of a byte string. -/
def crc8Bytes (bytes : List Byte) : Byte := crc8 (bitsOfBytes bytes)

/-- A 16-bit field of the store, most significant byte first (R169). -/
def be16 (high low : Byte) : Nat := 256 * high.toNat + low.toNat

end Sys2Proof.Machine
end

