-- ==== Sys2Proof/Machine/Operands.lean ====
section
/-! DEFINITION. How operands name cells, sites, tiles and directions: indices, home sites, quads, translations across a seam, neighbour positions, zones and ports (chapter 1, R154, R186). -/

namespace Sys2Proof

/-- The cell index 32y + x (R1). -/
def Cell.index (c : Cell) : Fin 1024 := ⟨32 * c.y.val + c.x.val, by omega⟩

/-- The cell of an index (R1). -/
def Cell.ofIndex (n : Fin 1024) : Cell := ⟨⟨n.val % 32, by omega⟩, ⟨n.val / 32, by omega⟩⟩

/-- The cell that two coordinate bytes name, none outside 0..31 (R183). -/
def Cell.ofBytes (x y : Byte) : Option Cell :=
  if hx : x.toNat < 32 then
    if hy : y.toNat < 32 then some ⟨⟨x.toNat, hx⟩, ⟨y.toNat, hy⟩⟩ else none
  else none

/-- The own cell at extended coordinates, none in the apron (R2). -/
def Cell.ofInts (x y : Int) : Option Cell :=
  if 0 ≤ x ∧ x ≤ 31 ∧ 0 ≤ y ∧ y ≤ 31 then
    some ⟨⟨x.toNat % 32, by omega⟩, ⟨y.toNat % 32, by omega⟩⟩
  else none

/-- An own cell in extended coordinates (R2). -/
def Cell.ext (c : Cell) : ExtCell := ⟨c.x.val, c.y.val⟩

/-- The site index 16j + i (R3). -/
def Site.index (s : Site) : Fin 256 := ⟨16 * s.j.val + s.i.val, by omega⟩

/-- The site of an index (R3). -/
def Site.ofIndex (n : Fin 256) : Site := ⟨⟨n.val % 16, by omega⟩, ⟨n.val / 16, by omega⟩⟩

/-- The site that two coordinate bytes name, none outside 0..15 (R183). -/
def Site.ofBytes (i j : Byte) : Option Site :=
  if hi : i.toNat < 16 then
    if hj : j.toNat < 16 then some ⟨⟨i.toNat, hi⟩, ⟨j.toNat, hj⟩⟩ else none
  else none

/-- The spare diagonal a site lies on, (i − j) mod 16 (R18, R89). -/
def Site.diagonal (s : Site) : Fin 16 := ⟨(s.i.val + 16 - s.j.val) % 16, by omega⟩

/-- A seam site: i = 0 or j = 0 (R6). -/
def Site.isSeam (s : Site) : Bool := s.i.val == 0 || s.j.val == 0

/-- Whether a cell, own or in the apron, lies in the quad of a site (R4). -/
def ExtCell.inQuad (e : ExtCell) (s : Site) : Bool :=
  decide (2 * (s.i.val : Int) - 1 ≤ e.x ∧ e.x ≤ 2 * (s.i.val : Int) ∧
    2 * (s.j.val : Int) - 1 ≤ e.y ∧ e.y ≤ 2 * (s.j.val : Int))

/-- The own cells of a site's quad in ascending cell index (R4, R87). -/
def Site.quadCells (s : Site) : List Cell :=
  let x : Int := 2 * s.i.val
  let y : Int := 2 * s.j.val
  [Cell.ofInts (x - 1) (y - 1), Cell.ofInts x (y - 1), Cell.ofInts (x - 1) y, Cell.ofInts x y].filterMap id

/-- Where a cell's home site stands (R5). -/
inductive HomeSite
  | own (site : Site)
  | foreign (owner : OwnerDir) (site : Site)
  deriving DecidableEq, Repr

/-- The home site of an own cell: i = (x + 1) div 2, j = (y + 1) div 2, a result of 16 belonging to E, S or SE (R5). -/
def Cell.home (c : Cell) : HomeSite :=
  let i : Fin 16 := ⟨(c.x.val + 1) / 2 % 16, by omega⟩
  let j : Fin 16 := ⟨(c.y.val + 1) / 2 % 16, by omega⟩
  if c.x.val = 31 then
    if c.y.val = 31 then .foreign .se ⟨0, 0⟩ else .foreign .e ⟨0, j⟩
  else if c.y.val = 31 then .foreign .s ⟨i, 0⟩
  else .own ⟨i, j⟩

/-- The direction in which this tile lies as seen from the neighbour (R8). -/
def Dir.reverse : Dir → Dir
  | .n => .s
  | .e => .w
  | .s => .n
  | .w => .e
  | .nw => .se
  | .se => .nw

/-- The six directions in the order of refreshes and reports, N, E, S, W, NW, SE (R143, R186). -/
def Dir.all : List Dir := [.n, .e, .s, .w, .nw, .se]

/-- An owner direction among the six. -/
def OwnerDir.toDir : OwnerDir → Dir
  | .e => .e
  | .s => .s
  | .se => .se

/-- A borrower direction among the six. -/
def BorrowerDir.toDir : BorrowerDir → Dir
  | .w => .w
  | .n => .n
  | .nw => .nw

/-- The owner direction that a direction is, if it is one (R7). -/
def Dir.owner : Dir → Option OwnerDir
  | .e => some .e
  | .s => some .s
  | .se => some .se
  | _ => none

/-- The borrower direction that a direction is, if it is one (R7). -/
def Dir.borrower : Dir → Option BorrowerDir
  | .w => some .w
  | .n => some .n
  | .nw => some .nw
  | _ => none

/-- The edge shared with the neighbour in a direction, if there is one (R7). -/
def Dir.edge : Dir → Option Edge
  | .n => some .n
  | .e => some .e
  | .s => some .s
  | .w => some .w
  | _ => none

/-- The neighbour across an edge (R13). -/
def Edge.toDir : Edge → Dir
  | .n => .n
  | .e => .e
  | .s => .s
  | .w => .w

/-- The edge of the neighbour that faces this edge (R13). -/
def Edge.facing : Edge → Edge
  | .n => .s
  | .e => .w
  | .s => .n
  | .w => .e

/-- The offset added to a neighbour's coordinates to give this tile's extended ones (R11). -/
def Dir.offset : Dir → Int × Int
  | .n => (0, -32)
  | .e => (32, 0)
  | .s => (0, 32)
  | .w => (-32, 0)
  | .nw => (-32, -32)
  | .se => (32, 32)

/-- A neighbour's cell in this tile's extended coordinates (R11). -/
def Cell.seenFrom (c : Cell) (d : Dir) : ExtCell := ⟨c.x.val + d.offset.1, c.y.val + d.offset.2⟩

/-- Whether a neighbour's cell lies in the quad of a site as seen from it (R12). -/
def Cell.inQuadFrom (c : Cell) (d : Dir) (s : Site) : Bool := (c.seenFrom d).inQuad s

/-- Whether a cell's home site belongs to the neighbour in a direction (R5). -/
def Cell.ownedBy (c : Cell) (d : Dir) : Bool :=
  match c.home with
  | .foreign owner _ => decide (owner.toDir = d)
  | .own _ => false

/-- The four edge neighbours of a cell (R110). -/
def Cell.edgeNeighbours (c : Cell) : List ExtCell :=
  let x := c.ext.x
  let y := c.ext.y
  [⟨x - 1, y⟩, ⟨x + 1, y⟩, ⟨x, y - 1⟩, ⟨x, y + 1⟩]

/-- The edges a cell lies on, the N or S edge first and then the E or W edge (R76, R146). -/
def Cell.edges (c : Cell) : List Edge :=
  (if c.y.val = 0 then [Edge.n] else []) ++ (if c.y.val = 31 then [Edge.s] else []) ++
  (if c.x.val = 31 then [Edge.e] else []) ++ (if c.x.val = 0 then [Edge.w] else [])

/-- The position of a cell along an edge it lies on (R13). -/
def Cell.edgePosition (c : Cell) : Edge → Fin 32
  | .n => c.x
  | .s => c.x
  | .e => c.y
  | .w => c.y

/-- The cell at a position of an edge (R13). -/
def Edge.cell (edge : Edge) (p : Fin 32) : Cell :=
  match edge with
  | .n => ⟨p, 0⟩
  | .e => ⟨31, p⟩
  | .s => ⟨p, 31⟩
  | .w => ⟨0, p⟩

/-- The apron cell across this tile's edge that a position of the facing edge names (R13). -/
def Edge.apronCell (edge : Edge) (p : Fin 32) : ExtCell :=
  match edge with
  | .n => ⟨p.val, -1⟩
  | .e => ⟨32, p.val⟩
  | .s => ⟨p.val, 32⟩
  | .w => ⟨-1, p.val⟩

/-- The step in column and row to a neighbour (R8). -/
def Dir.step : Dir → Int × Int
  | .n => (0, -1)
  | .e => (1, 0)
  | .s => (0, 1)
  | .w => (-1, 0)
  | .nw => (-1, -1)
  | .se => (1, 1)

/-- A tile position of the face: 0 ≤ c ≤ width − 1 and 0 ≤ r ≤ height − 1 (R8). -/
def onFace (cfg : Configuration) (c r : Int) : Bool :=
  decide (0 ≤ c ∧ c < cfg.faceWidth ∧ 0 ≤ r ∧ r < cfg.faceHeight)

/-- The position of a neighbour, none when it is not a tile position of the face or this tile lies outside the face (R8). -/
def Pos.neighbour (p : Pos) (cfg : Configuration) (d : Dir) : Option Pos :=
  let c : Int := p.col.val + d.step.1
  let r : Int := p.row.val + d.step.2
  if onFace cfg p.col.val p.row.val && onFace cfg c r then
    some ⟨⟨c.toNat % 128, by omega⟩, ⟨r.toNat % 64, by omega⟩⟩
  else none

/-- A service station's position has column 127 (section 9.2). -/
def Pos.isStation (p : Pos) : Bool := p.col.val == 127

/-- Straps at column 127 are invalid (R168). -/
def Pos.invalid (p : Pos) : Bool := p.col.val == 127

/-- The destination that means every station (section 9.2). -/
def Pos.everyone : Pos := ⟨127, 63⟩

/-- The A zone of a position (R154). -/
def Pos.zoneA (p : Pos) : Nat × Nat := (p.col.val / 16, p.row.val / 16)

/-- The B zone of a position (R154). -/
def Pos.zoneB (p : Pos) : Nat × Nat := ((p.col.val + 8) / 16, (p.row.val + 8) / 16)

/-- The port on which a tile sends to a destination: A when they share an A zone, otherwise B (R154). -/
def Pos.portTo (own dst : Pos) : PortId := if own.zoneA = dst.zoneA then .a else .b

end Sys2Proof
end

