-- ==== Sys2Proof/Machine/State.lean ====
section
/-! DEFINITION. The state of the part, block by block, as plain data, and the state right after reset. -/

namespace Sys2Proof.Machine

/-- What the part as a whole is doing (R167). -/
inductive Mode
  /-- The reset line is held: the part does nothing. -/
  | held
  | loading
  | run
  deriving DecidableEq, Repr

/-- How far the start load has come (R167). -/
inductive LoadPhase
  /-- The store is polled for its status (R170). -/
  | pollStore
  | configuration
  | calibration
  | retiredList
  /-- Everything is loaded; entry to RUN follows (R175). -/
  | complete
  deriving DecidableEq, Repr

/-- The calibration values per cell and per site (R14, R15). -/
structure Calibration where
  cells : Tbl 1024 (Rgb Nat)
  sites : Tbl 256 (Rgb Nat)
  deriving DecidableEq, Repr

/-- The ten sticky flags (R187). -/
inductive Flag
  | supplyDip | senseCeiling | tableFull | fillListFull | queueFull
  | linkQuietSeen | positionClash | storeFull | storeFault | videoLostSeen
  deriving DecidableEq, Repr

/-- The sticky flags as they stand, in the order of R187's table. -/
structure Flags where
  supplyDip : Bool
  senseCeiling : Bool
  tableFull : Bool
  fillListFull : Bool
  queueFull : Bool
  linkQuietSeen : Bool
  positionClash : Bool
  storeFull : Bool
  storeFault : Bool
  videoLostSeen : Bool
  deriving DecidableEq, Repr

/-- All ten flags clear (R187). -/
def Flags.clear : Flags := ⟨false, false, false, false, false, false, false, false, false, false⟩

/-- The states of the Video Intake (R100). -/
inductive IntakeState
  | receiving | lost | dark
  deriving DecidableEq, Repr

/-- The Video Intake (section 6.1). -/
structure Intake where
  /-- The 34 × 34 × 3 codes of the held window in the order of R99. -/
  window : Tbl 3468 Code
  /-- The window being received, newest code first; none when no frame-begin marker opened one. -/
  receiving : Option (List Code)
  state : IntakeState
  lossTimer : Timer
  deriving DecidableEq, Repr

/-- A probe plan (R17). -/
structure ProbePlan where
  number : Fin 256
  chipOn : Bool
  probeCode : Nat
  cellColumns : Tbl 32 (Fin 32)
  siteColumns : Tbl 16 (Fin 16)
  gains : Tbl 144 Nat
  deriving DecidableEq, Repr

/-- A drive frame: cell codes, site codes, and the probe plan or, where there is none, the no-probe indication (R103, R104). -/
structure DriveFrame where
  cells : Tbl 1024 (Rgb Nat)
  sites : Tbl 256 (Rgb Nat)
  plan : Option ProbePlan
  deriving DecidableEq, Repr

/-- The frame of all zeros with the no-probe indication (R102). -/
def DriveFrame.zeros : DriveFrame := ⟨Tbl.fill 1024 (Rgb.all 0), Tbl.fill 256 (Rgb.all 0), none⟩

/-- Why a frame is being sent: rendered at a frame start, re-emitted (R101), or all zeros (R102). -/
inductive FrameKind
  | rendered | reEmitted | dark
  deriving DecidableEq, Repr

/-- What the snapshot holds of an entry: the cell, and its gains when DIM or, when RETIRED, whether its remedy is of a filled kind (R106). -/
inductive SnapshotEntry
  | dim (cell : Cell) (gains : Rgb Nat)
  | retired (cell : Cell) (filled : Bool)
  deriving DecidableEq, Repr

/-- What the snapshot holds of a site: its state and, for OWN and LENT, the served cell (R106). -/
inductive SnapshotSite
  | absent | free | held
  | own (cell : Cell)
  | lent (dir : BorrowerDir) (cell : Cell)
  | faulty
  deriving DecidableEq, Repr

/-- The snapshot of the three collections (R106). -/
structure Snapshot where
  entries : List SnapshotEntry
  sites : Tbl 256 SnapshotSite
  foreignFills : List ExtCell
  deriving DecidableEq, Repr

/-- The empty snapshot (R106). -/
def Snapshot.empty : Snapshot := ⟨[], Tbl.fill 256 .absent, []⟩

/-- The Render Unit and the drive port (chapter 6). -/
structure Render where
  snapshot : Snapshot
  sending : Option (FrameKind × DriveFrame)
  waiting : Option DriveFrame
  last : DriveFrame
  deriving DecidableEq, Repr

/-- The Probe Engine (section 2.1). The 144 places run over sense rows 0..47, R, G, B within a row. -/
structure Probe where
  chip : Nat
  p : Fin 32
  q : Fin 16
  overrides : List (Fin 16)
  n : Nat
  onCount : Nat
  offCount : Nat
  onSum : Tbl 144 Nat
  offSum : Tbl 144 Nat
  sat : Tbl 144 Bool
  leak : Tbl 144 Bool
  gain : Tbl 144 Nat
  /-- The number the next plan takes. -/
  nextPlan : Fin 256
  plan : Option ProbePlan
  clean : Bool
  stallTimer : Timer
  sweepCount : Nat
  deriving DecidableEq, Repr

/-- The Probe Engine's cleared values (R16). -/
def Probe.cleared : Probe where
  chip := 1
  p := 0
  q := 0
  overrides := []
  n := 0
  onCount := 0
  offCount := 0
  onSum := Tbl.fill 144 0
  offSum := Tbl.fill 144 0
  sat := Tbl.fill 144 false
  leak := Tbl.fill 144 false
  gain := Tbl.fill 144 3
  nextPlan := 0
  plan := none
  clean := false
  stallTimer := none
  sweepCount := 0

/-- A cell verdict's judgement; a WEAK one carries its three gains (R30, R31). -/
inductive Judgement
  | healthy
  | weak (gains : Rgb Nat)
  | fault
  | none
  deriving DecidableEq, Repr

/-- A cell verdict as handed to the Condition Tracker (R35). -/
structure CellVerdict where
  cell : Cell
  judgement : Judgement
  responses : Rgb Int
  sweep : Nat
  deriving DecidableEq, Repr

/-- The verdict of a site (R32), and the kind of any verdict. -/
inductive Verdict
  | healthy | weak | fault | none
  deriving DecidableEq, Repr

/-- A site verdict as handed to the Spare Allocator (R35). -/
structure SiteVerdict where
  site : Site
  verdict : Verdict
  deriving DecidableEq, Repr

/-- What one block has handed another and the other has not yet taken, oldest first (R34 to R36). -/
structure Handed where
  appendRequests : List (Fin 16)
  cellVerdicts : List CellVerdict
  siteVerdicts : List SiteVerdict
  sweepEnds : Nat
  deriving DecidableEq, Repr

/-- Nothing handed on. -/
def Handed.nothing : Handed := ⟨[], [], [], 0⟩

/-- The states of the LED supply (R176). -/
inductive SupplyState
  | good | low
  deriving DecidableEq, Repr

/-- The Supply Monitor and its input pin (section 10.6). -/
structure Supply where
  /-- The level of the supply-good pin. -/
  input : Bool
  state : SupplyState
  countdown : Nat
  deriving DecidableEq, Repr

/-- The condition of a cell (section 3.2). -/
inductive Condition
  | good | suspect | dim | retired
  deriving DecidableEq, Repr

/-- The last verdict of a cell or a site (R42, R80). -/
inductive LastVerdict
  | never | healthy | weak | fault | none
  deriving DecidableEq, Repr

/-- The verdict record of a cell (section 3.1). -/
structure CellRecord where
  condition : Condition
  lastVerdict : LastVerdict
  faultRun : Nat
  weakRun : Nat
  healthyRun : Nat
  responses : Rgb Int
  sweep : Nat
  deriving DecidableEq, Repr

/-- A record's values after power-on or the reset line (R42). -/
def CellRecord.initial : CellRecord where
  condition := .good
  lastVerdict := .never
  faultRun := 0
  weakRun := 0
  healthyRun := 0
  responses := Rgb.all 0
  sweep := 0

/-- The twelve FILL reasons, in the order of R75's table. -/
inductive FillReason
  | quadBusy | siteFaulty | siteAbsent | noNeighbour | lendingOff | ownerSilent
  | noAnswer | refusedInUse | refusedFaulty | refusedNoSite | refusedWrongSite | revoked
  deriving DecidableEq, Repr

/-- The remedy of a RETIRED entry (R64). -/
inductive Remedy
  | ownSpare (site : Site)
  | loan (owner : OwnerDir) (site : Site)
  | asking (owner : OwnerDir) (site : Site) (attempt : Nat) (retryTimer : Nat)
  | fill (reason : FillReason)
  deriving DecidableEq, Repr

/-- The origin of an entry (R63). -/
inductive Origin
  | detected | stored | marked
  deriving DecidableEq, Repr

/-- The fields of an entry by its condition (R63). A stored entry has no remedy until entry to RUN (R78). -/
inductive EntryBody
  | dim (gains : Rgb Nat)
  | retired (remedy : Option Remedy) (retiredAt : Nat) (persisted : Bool)
  deriving DecidableEq, Repr

/-- An entry of the remap table (R63). -/
structure Entry where
  cell : Cell
  origin : Origin
  body : EntryBody
  deriving DecidableEq, Repr

/-- The state of a site with the fields present in it (section 5.1, R81). -/
inductive SiteState
  | absent
  | free
  | held (dir : BorrowerDir) (cell : Cell) (holdTimer : Nat)
  | own (cell : Cell)
  | lent (dir : BorrowerDir) (cell : Cell)
  | faulty
  deriving DecidableEq, Repr

/-- The site record (section 5.1). -/
structure SiteRecord where
  state : SiteState
  proven : Bool
  faultRun : Nat
  lastVerdict : LastVerdict
  deriving DecidableEq, Repr

/-- A site record through LOADING (R80). -/
def SiteRecord.initial : SiteRecord := ⟨.absent, false, 0, .never⟩

/-- The presence of a positioned neighbour (section 8.1). -/
inductive Presence
  | unheard | present | silent
  deriving DecidableEq, Repr

/-- A positioned entry of the neighbour table (R138); a NONE entry is `none` there. -/
structure Neighbour where
  position : Pos
  presence : Presence
  quiet : Timer
  deriving DecidableEq, Repr

/-- One thing for each of the six directions. -/
structure PerDir (α : Type) where
  n : α
  e : α
  s : α
  w : α
  nw : α
  se : α
  deriving DecidableEq, Repr

/-- One thing for each of the four edges. -/
structure PerEdge (α : Type) where
  n : α
  e : α
  s : α
  w : α
  deriving DecidableEq, Repr

/-- One thing for each of the two ports. -/
structure PerPort (α : Type) where
  a : α
  b : α
  deriving DecidableEq, Repr

/-- A record of the foreign fill list: the sender's direction N, E, S or W, named as this tile's edge it lies across, and the position (section 8.4). -/
structure FillRecord where
  edge : Edge
  position : Fin 32
  deriving DecidableEq, Repr

/-- The Seam Agent's tables (chapter 8). -/
structure Seam where
  neighbours : PerDir (Option Neighbour)
  /-- The filled edge sets: which positions of each edge hold a filled cell (R145). -/
  filledEdges : PerEdge (Tbl 32 Bool)
  foreignFills : List FillRecord
  refreshTimer : Timer
  deriving DecidableEq, Repr

/-- The Seam Agent after power-on or the reset line (R138, R143, R145, R147). -/
def Seam.cleared : Seam where
  neighbours := ⟨none, none, none, none, none, none⟩
  filledEdges := ⟨Tbl.fill 32 false, Tbl.fill 32 false, Tbl.fill 32 false, Tbl.fill 32 false⟩
  foreignFills := []
  refreshTimer := none

/-- The state of a Link Port (R153). -/
inductive PortState
  | off | ready | quiet
  deriving DecidableEq, Repr

/-- A Link Port (R153). -/
structure Port where
  state : PortState
  answers : List Notice
  notices : List Notice
  /-- The notice in transmission. -/
  current : Option Notice
  /-- The bit string of the attempt on the line, none between attempts (R157). -/
  attempt : Option (List Bool)
  /-- The attempt on the line was begun before a section restart and is not to be tried again (R162). -/
  dropAfter : Bool
  failCount : Nat
  quietTimer : Timer
  deriving DecidableEq, Repr

/-- A port after power-on or the reset line (R153). -/
def Port.cleared : Port := ⟨.off, [], [], none, none, false, 0, none⟩

/-- A slot of the slot map (R174). -/
inductive Slot
  | empty
  | live (cell : Cell)
  | void
  deriving DecidableEq, Repr

/-- An operation of the pending write list (section 10.2). -/
inductive PendingWrite
  | append (cell : Cell) (origin : Origin)
  | void (slot : Fin 128)
  deriving DecidableEq, Repr

/-- The operation in progress at the store (R177, R180). -/
inductive StoreJob
  | append (cell : Cell) (origin : Origin) (slot : Fin 128)
  | void (slot : Fin 128)
  | erase
  deriving DecidableEq, Repr

/-- The store state (section 10.2). -/
inductive StoreState
  | missing | idle | writing | erasing
  deriving DecidableEq, Repr

/-- The Store Interface (section 10.2). -/
structure Store where
  state : StoreState
  slots : Tbl 128 Slot
  pendingWrites : List PendingWrite
  rewrite : List Cell
  job : Option StoreJob
  /-- Ticks since the operation in progress began (R178, R180). -/
  jobTimer : Timer
  /-- A CLEAR_RETIRED waits for the write in progress to end before it erases (R180). -/
  eraseWaits : Bool
  /-- Duplicate slots found by the load, in slot order, whose voids are queued at entry to RUN (R174). -/
  duplicates : List (Fin 128)
  /-- Ticks since the store was first polled at the load (R170). -/
  pollTimer : Timer
  deriving DecidableEq, Repr

/-- The Store Interface after power-on or the reset line (section 10.2), polling since the start of LOADING. -/
def Store.cleared : Store where
  state := .idle
  slots := Tbl.fill 128 .empty
  pendingWrites := []
  rewrite := []
  job := none
  jobTimer := none
  eraseWaits := false
  duplicates := []
  pollTimer := some 0

/-- The state of the part. -/
structure State where
  mode : Mode
  loadPhase : LoadPhase
  position : Pos
  cfg : Configuration
  configDefault : Bool
  calibration : Calibration
  calDefault : Bool
  flags : Flags
  intake : Intake
  render : Render
  probe : Probe
  handed : Handed
  supply : Supply
  cells : Tbl 1024 CellRecord
  entries : List Entry
  sites : Tbl 256 SiteRecord
  seam : Seam
  ports : PerPort Port
  store : Store
  lastTags : PerPort (Option Byte)
  /-- The commands that wait, first in, first out. -/
  pending : List Instr
  deriving DecidableEq, Repr

/-- Why the part would stop with a fault: never.
The spec gives every step of its table an effect, a discard or no effect, so no constructor is raised by anyone. -/
inductive Fault
  deriving DecidableEq, Repr

/-- Why a command has no meaning. -/
inductive Refusal
  /-- Raised by an arm of the dispatch whose command has no meaning yet. Safe: nothing can be proved of that command's effect. -/
  | notModelled (mnemonic : String)
  deriving DecidableEq, Repr

/-- Every block at its cleared values at the start of LOADING (R167), with the position read from the straps (R168).
The supply-good pin and the command queue are outside the part and stay as given.
The frame of all zeros is being sent (R102; log entry 4), and the configuration not yet loaded stands at the defaults (log entry 3). -/
def State.starting (straps : Pos) (supplyGood : Bool) (queue : List Instr) : State where
  mode := .loading
  loadPhase := .pollStore
  position := straps
  cfg := Configuration.defaults
  configDefault := false
  calibration := ⟨Tbl.fill 1024 (Rgb.all 0), Tbl.fill 256 (Rgb.all 0)⟩
  calDefault := false
  flags := Flags.clear
  intake := ⟨Tbl.fill 3468 0, none, .dark, none⟩
  render := ⟨Snapshot.empty, some (.dark, DriveFrame.zeros), none, DriveFrame.zeros⟩
  probe := Probe.cleared
  handed := Handed.nothing
  supply := ⟨supplyGood, .low, 0⟩
  cells := Tbl.fill 1024 CellRecord.initial
  entries := []
  sites := Tbl.fill 256 SiteRecord.initial
  seam := Seam.cleared
  ports := ⟨Port.cleared, Port.cleared⟩
  store := Store.cleared
  lastTags := ⟨none, none⟩
  pending := queue

/-- The machine right after reset: LOADING begins, straps read as (0, 0) and supply-good low (log entries 1, 2). -/
def State.reset : State := State.starting ⟨0, 0⟩ false []

end Sys2Proof.Machine
end

