-- ==== Sys2Proof/Machine/Flags.lean ====
section
/-! DEFINITION. The sticky flags and the current indications (section 11.4). -/

namespace Sys2Proof.Machine

/-- The flags with one of them set (R187). -/
def Flags.raise (fs : Flags) : Flag → Flags
  | .supplyDip => { fs with supplyDip := true }
  | .senseCeiling => { fs with senseCeiling := true }
  | .tableFull => { fs with tableFull := true }
  | .fillListFull => { fs with fillListFull := true }
  | .queueFull => { fs with queueFull := true }
  | .linkQuietSeen => { fs with linkQuietSeen := true }
  | .positionClash => { fs with positionClash := true }
  | .storeFull => { fs with storeFull := true }
  | .storeFault => { fs with storeFault := true }
  | .videoLostSeen => { fs with videoLostSeen := true }

/-- The flags in the order of R187's table. -/
def Flags.toList (fs : Flags) : List Bool :=
  [fs.supplyDip, fs.senseCeiling, fs.tableFull, fs.fillListFull, fs.queueFull,
   fs.linkQuietSeen, fs.positionClash, fs.storeFull, fs.storeFault, fs.videoLostSeen]

/-- A cause sets its sticky flag, which stays set (R187). -/
def State.raise (s : State) (f : Flag) : State := { s with flags := s.flags.raise f }

/-- STORE_MISSING: the store gave no ready report at the load (R170). -/
def State.storeMissing (s : State) : Bool := decide (s.store.state = .missing)

/-- POSITION_INVALID: the part is strapped at column 127 (R168). -/
def State.positionInvalid (s : State) : Bool := s.position.invalid

/-- "any row LEAK": some LEAK mark is set (R27). -/
def State.anyRowLeak (s : State) : Bool := s.probe.leak.data.any id

end Sys2Proof.Machine
end

