-- ==== Sys2Proof/Machine/Ops.lean ====
section
/-! DEFINITION. The named reads and writes of the tables: records, entries, ports, neighbours and timers. A block has no exception entry, so there is none here. -/

namespace Sys2Proof.Machine

/-- What stands for a direction. -/
def PerDir.get {α : Type} (t : PerDir α) : Dir → α
  | .n => t.n
  | .e => t.e
  | .s => t.s
  | .w => t.w
  | .nw => t.nw
  | .se => t.se

/-- The table with one direction written. -/
def PerDir.set {α : Type} (t : PerDir α) (d : Dir) (v : α) : PerDir α :=
  match d with
  | .n => { t with n := v }
  | .e => { t with e := v }
  | .s => { t with s := v }
  | .w => { t with w := v }
  | .nw => { t with nw := v }
  | .se => { t with se := v }

/-- The table with every direction changed by the same function. -/
def PerDir.map {α β : Type} (f : α → β) (t : PerDir α) : PerDir β :=
  ⟨f t.n, f t.e, f t.s, f t.w, f t.nw, f t.se⟩

/-- What stands for an edge. -/
def PerEdge.get {α : Type} (t : PerEdge α) : Edge → α
  | .n => t.n
  | .e => t.e
  | .s => t.s
  | .w => t.w

/-- The table with one edge written. -/
def PerEdge.set {α : Type} (t : PerEdge α) (edge : Edge) (v : α) : PerEdge α :=
  match edge with
  | .n => { t with n := v }
  | .e => { t with e := v }
  | .s => { t with s := v }
  | .w => { t with w := v }

/-- What stands for a port. -/
def PerPort.get {α : Type} (t : PerPort α) : PortId → α
  | .a => t.a
  | .b => t.b

/-- The table with one port written. -/
def PerPort.set {α : Type} (t : PerPort α) (p : PortId) (v : α) : PerPort α :=
  match p with
  | .a => { t with a := v }
  | .b => { t with b := v }

/-- The table with both ports changed by the same function. -/
def PerPort.map {α β : Type} (f : α → β) (t : PerPort α) : PerPort β := ⟨f t.a, f t.b⟩

/-- A tick elapses: a running timer counts up to its limit, a stopped one stands (00, "Time"). -/
def advanceTimer (limit : Nat) (t : Timer) : Timer := t.map fun n => min limit (n + 1)

/-- Whether a running timer has reached a count. -/
def timerReached (limit : Nat) (t : Timer) : Bool := t.any fun n => decide (limit ≤ n)

/-- The verdict record of a cell (R42). -/
def State.cell (s : State) (c : Cell) : CellRecord := s.cells.get c.index

/-- The state with one verdict record written. -/
def State.setCell (s : State) (c : Cell) (r : CellRecord) : State :=
  { s with cells := s.cells.set c.index r }

/-- The record of a site (R80). -/
def State.site (s : State) (t : Site) : SiteRecord := s.sites.get t.index

/-- The state with one site record written. -/
def State.setSite (s : State) (t : Site) (r : SiteRecord) : State :=
  { s with sites := s.sites.set t.index r }

/-- A change of a site's state keeps proven, fault_run and last verdict (R85, R86, R92). -/
def State.setSiteState (s : State) (t : Site) (st : SiteState) : State :=
  s.setSite t { s.site t with state := st }

/-- A Link Port. -/
def State.port (s : State) (p : PortId) : Port := s.ports.get p

/-- The state with one port written. -/
def State.setPort (s : State) (p : PortId) (port : Port) : State :=
  { s with ports := s.ports.set p port }

/-- The neighbour table entry of a direction, none when it is NONE (R138). -/
def State.neighbour (s : State) (d : Dir) : Option Neighbour := s.seam.neighbours.get d

/-- The state with one neighbour table entry written. -/
def State.setNeighbour (s : State) (d : Dir) (nb : Option Neighbour) : State :=
  { s with seam := { s.seam with neighbours := s.seam.neighbours.set d nb } }

/-- The state with another remap table. -/
def State.setEntries (s : State) (es : List Entry) : State := { s with entries := es }

/-- A remedy of a filled kind, FILL or ASKING (R64). -/
def Remedy.isFilled : Remedy → Bool
  | .fill _ => true
  | .asking .. => true
  | .ownSpare _ => false
  | .loan .. => false

/-- Whether a remedy is FILL with one of the given reasons. -/
def Remedy.isFillWith (reasons : List FillReason) : Remedy → Bool
  | .fill reason => reasons.contains reason
  | _ => false

/-- Whether a remedy is FILL, whatever the reason. -/
def Remedy.isFill : Remedy → Bool
  | .fill _ => true
  | _ => false

/-- Whether an entry is RETIRED. -/
def Entry.isRetired (e : Entry) : Bool :=
  match e.body with
  | .retired .. => true
  | .dim _ => false

/-- The remedy of an entry that has one. -/
def Entry.remedy (e : Entry) : Option Remedy :=
  match e.body with
  | .retired remedy _ _ => remedy
  | .dim _ => none

/-- Whether an entry's cell is filled: RETIRED with a remedy of a filled kind (R64). -/
def Entry.isFilled (e : Entry) : Bool := e.remedy.any Remedy.isFilled

/-- A RETIRED entry with another remedy; a DIM entry is unchanged (R71). -/
def Entry.withRemedy (e : Entry) (r : Remedy) : Entry :=
  match e.body with
  | .retired _ at_ persisted => { e with body := .retired (some r) at_ persisted }
  | .dim _ => e

/-- A RETIRED entry with another persisted field; a DIM entry is unchanged (R65). -/
def Entry.withPersisted (e : Entry) (value : Bool) : Entry :=
  match e.body with
  | .retired remedy at_ _ => { e with body := .retired remedy at_ value }
  | .dim _ => e

/-- The entry of a cell (R62: at most one). -/
def State.entryOf (s : State) (c : Cell) : Option Entry := s.entries.find? fun e => e.cell == c

/-- The RETIRED entry of a cell. -/
def State.retiredEntry (s : State) (c : Cell) : Option Entry := (s.entryOf c).filter Entry.isRetired

/-- The remedy of a cell's RETIRED entry. -/
def State.remedyOf (s : State) (c : Cell) : Option Remedy := (s.entryOf c).bind Entry.remedy

/-- The entries with the named cell's entry changed in its place. -/
def changeEntry (c : Cell) (f : Entry → Entry) (es : List Entry) : List Entry :=
  es.map fun e => if e.cell == c then f e else e

/-- The entries without the named cell's, the gap closed (R62). -/
def removeCell (c : Cell) (es : List Entry) : List Entry := es.filter fun e => !(e.cell == c)

/-- The DIM entry with the lowest position (R67). -/
def oldestDim (es : List Entry) : Option Entry := es.find? fun e => !e.isRetired

/-- Whether cell `c` is a filled cell (R64, R107). -/
def State.isFilledCell (s : State) (c : Cell) : Bool := (s.remedyOf c).any Remedy.isFilled

end Sys2Proof.Machine
end

