-- ==== Sys2Proof/Machine/ProbeEngine.lean ====
section
/-! DEFINITION. The Probe Engine: plans (R17, R18), the chip sequence (R19), counted frames (R20 to R22), the arithmetic of a pass end (R24 to R32), the pass advance and the override list (R33, R34), hand-off (R35, R36) and aborts (R37 to R40); and the Supply Monitor's input (R176). -/

namespace Sys2Proof.Machine

/-! ## Plans and diagonals -/

/-- The cell of diagonal `p` in a cell row (R18). -/
def diagonalCell (p y : Fin 32) : Cell := ⟨⟨(y.val + p.val) % 32, by omega⟩, y⟩

/-- The site of diagonal `q` in a spare row (R18). -/
def diagonalSite (q j : Fin 16) : Site := ⟨⟨(j.val + q.val) % 16, by omega⟩, j⟩

/-- The chip state after a counted frame (R19). -/
def nextChip (chip : Nat) : Nat := if chip % 2 = 1 then (chip / 2) ^^^ 48 else chip / 2

/-- The chip is ON when the chip state is odd (R19). -/
def chipIsOn (chip : Nat) : Bool := decide (chip % 2 = 1)

/-- The plan issued at a frame start (R17). -/
def probePlan (cfg : Configuration) (pe : Probe) : ProbePlan where
  number := pe.nextPlan
  chipOn := chipIsOn pe.chip
  probeCode := cfg.probeCode
  cellColumns := Tbl.ofFn fun y => (diagonalCell pe.p y).x
  siteColumns := Tbl.ofFn fun j => (diagonalSite pe.q j).i
  gains := pe.gain

/-- The engine with a plan issued and kept as the frame plan record (R17). -/
def Probe.issued (cfg : Configuration) (pe : Probe) : Probe :=
  { pe with plan := some (probePlan cfg pe), nextPlan := ⟨(pe.nextPlan.val + 1) % 256, by omega⟩ }

/-! ## The 144 row-and-colour pairs -/

/-- The sense row of a row-and-colour pair. -/
def pairRow (i : Fin 144) : Fin 48 := ⟨i.val / 3, by omega⟩

/-- The colour of a row-and-colour pair. -/
def pairColour (i : Fin 144) : Colour :=
  match i.val % 3 with
  | 0 => .r
  | 1 => .g
  | _ => .b

/-- The row-and-colour pair of a sense row and a colour. -/
def pairOf (row : Fin 48) (k : Colour) : Fin 144 :=
  ⟨3 * row.val + k.index, by cases k <;> simp only [Colour.index] <;> omega⟩

/-- The sense row of a cell row (section 2.1). -/
def cellRow (y : Fin 32) : Fin 48 := ⟨y.val, by omega⟩

/-- The sense row of a spare row (section 2.1). -/
def spareRow (j : Fin 16) : Fin 48 := ⟨32 + j.val, by omega⟩

/-- The calibration value E of the emitter a row and colour carries (R25). -/
def expected (cal : Calibration) (pe : Probe) (i : Fin 144) : Nat :=
  let row := pairRow i
  if h : row.val < 32 then
    ((cal.cells.get (diagonalCell pe.p ⟨row.val, h⟩).index).get (pairColour i))
  else
    ((cal.sites.get (diagonalSite pe.q ⟨(row.val - 32) % 16, by omega⟩).index).get (pairColour i))

/-! ## Pass end -/

/-- The weighted difference D: the OFF count times ON_SUM less the ON count times OFF_SUM (R24). -/
def difference (pe : Probe) (i : Fin 144) : Int :=
  (pe.offCount : Int) * (pe.onSum.get i : Int) - (pe.onCount : Int) * (pe.offSum.get i : Int)

/-- The mean response R = D / 992, rounded toward minus infinity (R24). -/
def response (pe : Probe) (i : Fin 144) : Int := difference pe i / 992

/-- The result of a row and colour (R25). -/
inductive PairResult
  | none | fault | weak | healthy
  deriving DecidableEq, Repr

/-- The classification of 16·D against the three bounds of E_g (R26). -/
def classify (cfg : Configuration) (eg : Nat) (d : Int) : PairResult :=
  if 16 * d < ((cfg.tDead * eg * 992 : Nat) : Int) then .fault
  else if 16 * d > ((cfg.tHot * eg * 992 : Nat) : Int) then .fault
  else if 16 * d < ((cfg.tWeak * eg * 992 : Nat) : Int) then .weak
  else .healthy

/-- Whether a row's OFF_SUM exceeds its leak limit 31 × L_leak × 2^g (R25, R27). -/
def leaks (cfg : Configuration) (pe : Probe) (i : Fin 144) : Bool :=
  decide (31 * cfg.lLeak * 2 ^ pe.gain.get i < pe.offSum.get i)

/-- The expected response at the gain of the pass, E × 2^g (R26). -/
def scaledExpected (cal : Calibration) (pe : Probe) (i : Fin 144) : Nat :=
  expected cal pe i * 2 ^ pe.gain.get i

/-- The result of a row and colour at pass end, the first case of R25's order that applies. -/
def pairResult (cfg : Configuration) (cal : Calibration) (pe : Probe) (i : Fin 144) : PairResult :=
  if expected cal pe i = 0 then .none
  else if pe.sat.get i then .none
  else if leaks cfg pe i then .none
  else classify cfg (scaledExpected cal pe i) (difference pe i)

/-- The combination of three results: FAULT, then NONE, then WEAK, then HEALTHY (R30, R32). -/
def combine (r : Rgb PairResult) : Verdict :=
  if r.r = .fault ∨ r.g = .fault ∨ r.b = .fault then .fault
  else if r.r = .none ∨ r.g = .none ∨ r.b = .none then .none
  else if r.r = .weak ∨ r.g = .weak ∨ r.b = .weak then .weak
  else .healthy

/-- The compensation gain of a colour: floor(4 063 232 × E_g / D) when it is WEAK, 4096 otherwise (R31). -/
def compensationGain (result : PairResult) (eg : Nat) (d : Int) : Nat :=
  if result = .weak then ((4063232 * eg : Nat) / d : Int).toNat else 4096

/-- The results of a sense row's three colours. -/
def rowResults (cfg : Configuration) (cal : Calibration) (pe : Probe) (row : Fin 48) : Rgb PairResult :=
  Rgb.ofFn fun k => pairResult cfg cal pe (pairOf row k)

/-- The gains of a WEAK verdict (R31). -/
def rowGains (cfg : Configuration) (cal : Calibration) (pe : Probe) (row : Fin 48) : Rgb Nat :=
  Rgb.ofFn fun k =>
    compensationGain (pairResult cfg cal pe (pairOf row k)) (scaledExpected cal pe (pairOf row k))
      (difference pe (pairOf row k))

/-- A verdict with the gains it carries when it is WEAK (R30, R31). -/
def judgement (v : Verdict) (gains : Rgb Nat) : Judgement :=
  match v with
  | .healthy => .healthy
  | .weak => .weak gains
  | .fault => .fault
  | .none => .none

/-- The verdict of the cell probed in a cell row (R30, R35). -/
def cellVerdictOf (cfg : Configuration) (cal : Calibration) (pe : Probe) (y : Fin 32) : CellVerdict where
  cell := diagonalCell pe.p y
  judgement := judgement (combine (rowResults cfg cal pe (cellRow y))) (rowGains cfg cal pe (cellRow y))
  responses := Rgb.ofFn fun k => response pe (pairOf (cellRow y) k)
  sweep := pe.sweepCount

/-- A site with a calibration value of 0 for any colour is absent (R15). -/
def siteIsAbsent (values : Rgb Nat) : Bool := decide (values.r = 0 ∨ values.g = 0 ∨ values.b = 0)

/-- The verdict of the site probed in a spare row (R32, R35): NONE for an ABSENT site, whatever its other colours show (log entry 25), else the combination of its three colours. -/
def siteVerdictOf (cfg : Configuration) (cal : Calibration) (pe : Probe) (j : Fin 16) : SiteVerdict where
  site := diagonalSite pe.q j
  verdict :=
    if siteIsAbsent (cal.sites.get (diagonalSite pe.q j).index) then .none
    else combine (rowResults cfg cal pe (spareRow j))

/-- The gain level for the next pass: one down after saturation, one up when the lit sum stays below 32 768 (R28, R29). -/
def nextGain (pe : Probe) (i : Fin 144) : Nat :=
  if pe.sat.get i then pe.gain.get i - 1
  else if pe.onSum.get i < 32768 ∧ pe.gain.get i < 3 then pe.gain.get i + 1
  else pe.gain.get i

/-- Whether some row and colour saturated at gain level 0 (R28). -/
def hitsCeiling (pe : Probe) : Bool :=
  (List.finRange 144).any fun i => pe.sat.get i && decide (pe.gain.get i = 0)

/-- The sums, counts and SAT marks cleared and the sequence at its start (R33, R37). -/
def Probe.sumsCleared (pe : Probe) : Probe :=
  { pe with
    chip := 1, n := 0, onCount := 0, offCount := 0
    onSum := Tbl.fill 144 0, offSum := Tbl.fill 144 0, sat := Tbl.fill 144 false
    stallTimer := some 0 }

/-- The pass advance, with the marks and gains of the pass just ended (R27 to R29, R33, R36). -/
def Probe.advanced (cfg : Configuration) (pe : Probe) : Probe :=
  { pe.sumsCleared with
    leak := Tbl.ofFn (leaks cfg pe)
    gain := Tbl.ofFn (nextGain pe)
    p := ⟨(pe.p.val + 1) % 32, by omega⟩
    q := pe.overrides.headD ⟨(pe.q.val + 1) % 16, by omega⟩
    overrides := pe.overrides.tail
    sweepCount := if pe.p.val = 31 then (pe.sweepCount + 1) % Config.sweepModulus else pe.sweepCount }

/-- What a pass end hands on: 32 cell verdicts, 16 site verdicts, and a sweep end when p wraps (R35, R36). -/
def Handed.withPass (h : Handed) (cfg : Configuration) (cal : Calibration) (pe : Probe) : Handed :=
  { h with
    cellVerdicts := h.cellVerdicts ++ (List.finRange 32).map (cellVerdictOf cfg cal pe)
    siteVerdicts := h.siteVerdicts ++ (List.finRange 16).map (siteVerdictOf cfg cal pe)
    sweepEnds := if pe.p.val = 31 then h.sweepEnds + 1 else h.sweepEnds }

/-- A pass end: the verdicts handed on, SENSE_CEILING where it is due, and the advance (R24, R28, R33, R35). -/
def endPass (s : State) : State :=
  let t := { s with
    handed := s.handed.withPass s.cfg s.calibration s.probe
    probe := s.probe.advanced s.cfg }
  if hitsCeiling s.probe then t.raise .senseCeiling else t

/-! ## Sense reports -/

/-- Samples added to the sums of their rows and colours (R22). -/
def addSamples (sums : Tbl 144 Nat) (samples : List Sample) : Tbl 144 Nat :=
  Tbl.ofFn fun i => sums.get i + (samples.getD i.val 0).val

/-- SAT marks with those of samples of 4095 set (R22). -/
def markSaturated (sat : Tbl 144 Bool) (samples : List Sample) : Tbl 144 Bool :=
  Tbl.ofFn fun i => sat.get i || decide ((samples.getD i.val 0).val = 4095)

/-- A report taken consumes the frame plan record (R20). -/
def Probe.consumed (pe : Probe) : Probe := { pe with plan := none }

/-- A counted frame's effect on the engine, by the chip of its plan (R22). -/
def Probe.counted (chipOn : Bool) (samples : List Sample) (pe : Probe) : Probe :=
  let moved := { pe.consumed with chip := nextChip pe.chip, n := pe.n + 1, stallTimer := some 0 }
  if chipOn then
    { moved with
      onSum := addSamples pe.onSum samples, sat := markSaturated pe.sat samples, onCount := pe.onCount + 1 }
  else { moved with offSum := addSamples pe.offSum samples, offCount := pe.offCount + 1 }

/-- A report taken: counted when the clean mark is set, with the pass end at the 63rd; discarded otherwise (R22, R24). -/
def takeReport (plan : ProbePlan) (samples : List Sample) (s : State) : State :=
  if s.probe.clean then
    let t := { s with probe := s.probe.counted plan.chipOn samples }
    if t.probe.n = Config.passFrames then endPass t else t
  else { s with probe := s.probe.consumed }

/-- A sense report: taken when the part is in RUN, its number is that of the frame plan record held, and all 144 samples came; discarded otherwise (R20). -/
def senseReport (number : Fin 256) (samples : List Sample) (s : State) : State :=
  if s.mode = .run then
    match s.probe.plan with
    | some plan => if plan.number = number ∧ samples.length = 144 then takeReport plan samples s else s
    | none => s
  else s

/-! ## Override list and aborts -/

/-- A diagonal asked for: appended unless it is listed or the list is full (R34). -/
def appendOverride (d : Fin 16) (list : List (Fin 16)) : List (Fin 16) :=
  if d ∈ list then list else if list.length < Config.overridePlaces then list ++ [d] else list

/-- An abort of the pass (R37). -/
def Probe.aborted (pe : Probe) : Probe := { pe.sumsCleared with plan := none }

/-- RESCAN's abort: p returns to 0 (R39). -/
def Probe.rescanned (pe : Probe) : Probe := { pe.aborted with p := 0 }

/-- Section restart's abort: p and q return to 0, the override list is emptied, every gain level is 3 (R40). -/
def Probe.restarted (pe : Probe) : Probe :=
  { pe.aborted with p := 0, q := 0, overrides := [], gain := Tbl.fill 144 3 }

/-- The clean mark at a frame start: the supply GOOD and the settle countdown at 0 as the frame started (R21). -/
def Supply.clean (su : Supply) : Bool := decide (su.state = .good ∧ su.countdown = 0)

/-- The settle countdown at a frame start (R176). -/
def Supply.frameStarted (su : Supply) : Supply :=
  if su.state = .good then { su with countdown := su.countdown - 1 } else su

/-! ## The commands -/

/-- SENSE_REPORT (R20, R22, R24). -/
def execSenseReport (number : Fin 256) (samples : List Sample) (s : State) :
    Host.Outcome State Fault Refusal := .next (senseReport number samples s)

/-- STALL_TIMER_EXPIRY (R38): the timer runs in RUN only. -/
def execStallTimerExpiry (s : State) : Host.Outcome State Fault Refusal :=
  .next (if s.probe.stallTimer = none then s else { s with probe := s.probe.aborted })

/-- OVERRIDE_APPEND (R34): the Probe Engine takes the oldest request. -/
def execOverrideAppend (s : State) : Host.Outcome State Fault Refusal :=
  match s.handed.appendRequests with
  | [] => .next s
  | d :: rest => .next { s with
      handed := { s.handed with appendRequests := rest }
      probe := { s.probe with overrides := appendOverride d s.probe.overrides } }

/-- SUPPLY_LOW (R176, R21): the pin goes low; in RUN the state becomes LOW, SUPPLY_DIP is set and the clean mark cleared. -/
def execSupplyLow (s : State) : Host.Outcome State Fault Refusal :=
  .next (if s.mode = .run then
    { s with
      supply := { s.supply with input := false, state := .low }
      probe := { s.probe with clean := false } }.raise .supplyDip
  else { s with supply := { s.supply with input := false } })

/-- SUPPLY_HIGH (R176): the pin goes high; in RUN the state becomes GOOD and the countdown is set to the settle frames. -/
def execSupplyHigh (s : State) : Host.Outcome State Fault Refusal :=
  .next (if s.mode = .run then
    { s with supply := { input := true, state := .good, countdown := s.cfg.settleFrames } }
  else { s with supply := { s.supply with input := true } })

end Sys2Proof.Machine
end

