-- ==== Sys2Proof/Machine/Rendering.lean ====
section
/-! DEFINITION. The Video Intake and the Render Unit: the window (R99), the loss hold (R100 to R102), the drive port (R103 to R105), the snapshot (R106), cell and site drive (R107 to R113). -/

namespace Sys2Proof.Machine

/-! ## The window -/

/-- The place of a cell's colour in the window: rows y = −1..32, within a row x = −1..32, within a cell R, G, B (R99). -/
def windowPlace (e : ExtCell) (k : Colour) : Option (Fin 3468) :=
  let place := 3 * (34 * (e.y + 1).toNat + (e.x + 1).toNat) + k.index
  if h : -1 ≤ e.x ∧ e.x ≤ 32 ∧ -1 ≤ e.y ∧ e.y ≤ 32 ∧ place < 3468 then some ⟨place, h.2.2.2.2⟩ else none

/-- The held window's code for a cell, own or in the apron, in a colour (R2, R99). -/
def Intake.code (vi : Intake) (e : ExtCell) (k : Colour) : Nat :=
  match windowPlace e k with
  | some place => (vi.window.get place).val
  | none => 0

/-! ## The snapshot -/

/-- What the snapshot copies of an entry (R106). -/
def Entry.snapshot (e : Entry) : SnapshotEntry :=
  match e.body with
  | .dim gains => .dim e.cell gains
  | .retired .. => .retired e.cell e.isFilled

/-- The cell of a snapshot entry. -/
def SnapshotEntry.cell : SnapshotEntry → Cell
  | .dim c _ => c
  | .retired c _ => c

/-- What the snapshot copies of a site (R106). -/
def SiteState.snapshot : SiteState → SnapshotSite
  | .absent => .absent
  | .free => .free
  | .held .. => .held
  | .own c => .own c
  | .lent d c => .lent d c
  | .faulty => .faulty

/-- The apron cell a foreign fill record names (R13). -/
def FillRecord.apronCell (r : FillRecord) : ExtCell := r.edge.apronCell r.position

/-- The snapshot of the remap table, the site table and the foreign fill list (R106). -/
def State.snapshot (s : State) : Snapshot where
  entries := s.entries.map Entry.snapshot
  sites := s.sites.map fun r => r.state.snapshot
  foreignFills := s.seam.foreignFills.map FillRecord.apronCell

/-- The snapshot's entry of an own cell. -/
def Snapshot.entry (sn : Snapshot) (c : Cell) : Option SnapshotEntry :=
  sn.entries.find? fun e => e.cell == c

/-- Whether an own cell is filled for the frame: RETIRED with a remedy of a filled kind (R107). -/
def Snapshot.ownFilled (sn : Snapshot) (c : Cell) : Bool :=
  match sn.entry c with
  | some (.retired _ filled) => filled
  | _ => false

/-- Whether a cell, own or in the apron, is filled for the frame (R107). -/
def Snapshot.filled (sn : Snapshot) (e : ExtCell) : Bool :=
  match Cell.ofInts e.x e.y with
  | some c => sn.ownFilled c
  | none => decide (e ∈ sn.foreignFills)

/-! ## Drive codes -/

/-- The share one edge neighbour gives: floor(v × F / 64) when it is filled, nothing otherwise (R110). -/
def fillShareOf (share : Nat) (vi : Intake) (sn : Snapshot) (k : Colour) (e : ExtCell) : Nat :=
  if sn.filled e then vi.code e k * share / 64 else 0

/-- The fill of a lit own cell in a colour (R110). -/
def cellFill (share : Nat) (vi : Intake) (sn : Snapshot) (c : Cell) (k : Colour) : Nat :=
  (c.edgeNeighbours.map (fillShareOf share vi sn k)).sum

/-- The primary drive of an own cell in a colour (R108). -/
def cellDrive (share : Nat) (vi : Intake) (sn : Snapshot) (c : Cell) (k : Colour) : Nat :=
  match sn.entry c with
  | some (.retired ..) => 0
  | some (.dim _ gains) => min 65535 (vi.code c.ext k * gains.get k / 4096 + cellFill share vi sn c k)
  | none => min 65535 (vi.code c.ext k + cellFill share vi sn c k)

/-- The drive of a spare site in a colour (R112). -/
def siteDrive (vi : Intake) (sn : Snapshot) (site : Site) (k : Colour) : Nat :=
  match sn.sites.get site.index with
  | .own c => vi.code c.ext k
  | .lent d c => vi.code (c.seenFrom d.toDir) k
  | _ => 0

/-- The frame rendered in RUN, with the frame's plan (R103, R106). -/
def renderFrame (share : Nat) (vi : Intake) (sn : Snapshot) (plan : Option ProbePlan) : DriveFrame where
  cells := Tbl.ofFn fun n => Rgb.ofFn (cellDrive share vi sn (Cell.ofIndex n))
  sites := Tbl.ofFn fun n => Rgb.ofFn (siteDrive vi sn (Site.ofIndex n))
  plan := plan

/-- The plain frame rendered in LOADING (R113). -/
def plainFrame (vi : Intake) : DriveFrame where
  cells := Tbl.ofFn fun n => Rgb.ofFn (vi.code (Cell.ofIndex n).ext)
  sites := Tbl.fill 256 (Rgb.all 0)
  plan := none

/-! ## The drive port -/

/-- A rendered frame is sent at once when the port is idle; otherwise it waits, in place of any frame waiting (R105). -/
def Render.offer (ru : Render) (f : DriveFrame) : Render :=
  match ru.sending with
  | none => { ru with sending := some (.rendered, f) }
  | some _ => { ru with waiting := some f }

/-- A re-emission or a frame of all zeros is sent when the port is idle and skipped when it is busy (R101, R102, R105). -/
def Render.emit (ru : Render) (kind : FrameKind) (f : DriveFrame) : Render :=
  match ru.sending with
  | none => { ru with sending := some (kind, f) }
  | some _ => ru

/-- The last drive frame with the no-probe indication, as it is re-emitted (R101, R104). -/
def Render.reEmission (ru : Render) : DriveFrame := { ru.last with plan := none }

/-- The frame being sent is complete: a rendered one becomes the last drive frame, and a waiting frame is sent (R105). -/
def Render.sent (ru : Render) : Render :=
  match ru.sending with
  | none => ru
  | some (kind, f) =>
    { ru with
      last := if kind = .rendered then f else ru.last
      sending := ru.waiting.map fun w => (.rendered, w)
      waiting := none }

/-! ## Frame starts -/

/-- The intake at a frame start: RECEIVING, the loss timer restarted (R100). -/
def Intake.frameStarted (vi : Intake) : Intake := { vi with state := .receiving, lossTimer := some 0 }

/-- A frame start in RUN: the plan, the clean mark, the settle countdown, the snapshot and the rendered frame (R17, R21, R106, R176). -/
def frameStartInRun (s : State) : State :=
  { s with
    intake := s.intake.frameStarted
    probe := { s.probe.issued s.cfg with clean := s.supply.clean }
    supply := s.supply.frameStarted
    render := { s.render with snapshot := s.snapshot }.offer
      (renderFrame s.cfg.fillShare s.intake s.snapshot (some (probePlan s.cfg s.probe))) }

/-- A frame start in LOADING: a plain frame, no plan, no snapshot (R113). -/
def frameStartInLoading (s : State) : State :=
  { s with intake := s.intake.frameStarted, render := s.render.offer (plainFrame s.intake) }

/-- The frame start that a completed window raises (R99). -/
def frameStart (s : State) : State := if s.mode = .run then frameStartInRun s else frameStartInLoading s

/-- A video code joins the window being received; the 3468th completes it and raises the frame start; outside a window it is discarded (R99). -/
def receiveCode (code : Code) (s : State) : State :=
  match s.intake.receiving with
  | none => s
  | some codes =>
    if h : (code :: codes).length = 3468 then
      frameStart { s with intake := { s.intake with
        window := ⟨(code :: codes).reverse, by rw [List.length_reverse, h]⟩, receiving := none } }
    else { s with intake := { s.intake with receiving := some (code :: codes) } }

/-! ## The commands -/

/-- FRAME_BEGIN_MARKER (R99); nothing is received while the reset line is held. -/
def execFrameBeginMarker (s : State) : Host.Outcome State Fault Refusal :=
  .next (if s.mode = .held then s else { s with intake := { s.intake with receiving := some [] } })

/-- VIDEO_CODE (R99). -/
def execVideoCode (code : Code) (s : State) : Host.Outcome State Fault Refusal :=
  .next (if s.mode = .held then s else receiveCode code s)

/-- DRIVE_FRAME_SENT (R105). -/
def execDriveFrameSent (s : State) : Host.Outcome State Fault Refusal :=
  .next { s with render := s.render.sent }

/-- The intake becomes LOST, with the first re-emission at that tick (R100, R101). -/
def loseVideo (s : State) : State :=
  { s with
    intake := { s.intake with state := .lost, lossTimer := some 0 }
    render := s.render.emit .reEmitted s.render.reEmission }.raise .videoLostSeen

/-- The intake becomes DARK, with the first frame of all zeros at that tick (R100, R102). -/
def darken (s : State) : State :=
  { s with
    intake := { s.intake with state := .dark, lossTimer := none }
    render := s.render.emit .dark DriveFrame.zeros }

/-- LOSS_TIMER_LOST (R100). -/
def execLossTimerLost (s : State) : Host.Outcome State Fault Refusal :=
  .next (if s.intake.state = .receiving then loseVideo s else s)

/-- LOSS_TIMER_DARK (R100). -/
def execLossTimerDark (s : State) : Host.Outcome State Fault Refusal :=
  .next (if s.intake.state = .lost then darken s else s)

/-- RE_EMIT_TICK (R101). -/
def execReEmitTick (s : State) : Host.Outcome State Fault Refusal :=
  .next (if s.intake.state = .lost then
    { s with render := s.render.emit .reEmitted s.render.reEmission } else s)

/-- DARK_FRAME_TICK (R102); while the reset line is held the port emits nothing. -/
def execDarkFrameTick (s : State) : Host.Outcome State Fault Refusal :=
  .next (if s.intake.state = .dark ∧ s.mode ≠ .held then
    { s with render := s.render.emit .dark DriveFrame.zeros } else s)

end Sys2Proof.Machine
end

