-- ==== Sys2Proof/Machine/Notices.lean ====
section
/-! DEFINITION. The notice format on the seam lines: how a notice is coded into bits, its check, and which bit strings are well-formed notices (section 9.2, R155, R156). -/

namespace Sys2Proof.Machine

/-- The kind code of what a notice carries (section 9.2). -/
def kindCode : NoticeBody → Nat
  | .sectionRestart => 0
  | .grant .. => 1
  | .refuse .. => 2
  | .wait .. => 3
  | .revoke .. => 4
  | .release .. => 5
  | .claim .. => 6
  | .holdList _ => 7
  | .loanList _ => 8
  | .fillList .. => 9
  | .serviceRequest .. => 10
  | .report .. => 11

/-- A site field: its index in 8 bits (R155). -/
def siteBits (s : Site) : List Bool := bitsOfNat 8 s.index.val

/-- A cell field: its index in 10 bits (R155). -/
def cellBits (c : Cell) : List Bool := bitsOfNat 10 c.index.val

/-- The edge code of a FILL_LIST (R155). -/
def edgeCode : Edge → Nat
  | .n => 0
  | .e => 1
  | .s => 2
  | .w => 3

/-- The edge of an edge code (R155). -/
def edgeOfCode : Nat → Edge
  | 0 => .n
  | 1 => .e
  | 2 => .s
  | _ => .w

/-- The pairs of a HOLD_LIST or LOAN_LIST: count 5, then site 8 and cell 10 for each (section 9.2). -/
def pairsBits (pairs : List LoanPair) : List Bool :=
  bitsOfNat 5 pairs.length ++ pairs.flatMap fun p => siteBits p.site ++ cellBits p.cell

/-- The payload fields of a notice in order, before the closing bits (section 9.2). -/
def fieldBits : NoticeBody → List Bool
  | .sectionRestart => []
  | .grant site cell => siteBits site ++ cellBits cell
  | .refuse site cell reason => siteBits site ++ cellBits cell ++ bitsOfNat 4 reason.val
  | .wait site cell => siteBits site ++ cellBits cell
  | .revoke site cell => siteBits site ++ cellBits cell
  | .release site cell => siteBits site ++ cellBits cell
  | .claim cell site attempt => cellBits cell ++ siteBits site ++ bitsOfNat 4 attempt.val
  | .holdList pairs => pairsBits pairs
  | .loanList pairs => pairsBits pairs
  | .fillList edge positions =>
    bitsOfNat 2 (edgeCode edge) ++ bitsOfNat 6 positions.length ++ positions.flatMap fun p => bitsOfNat 5 p.val
  | .serviceRequest tag command arguments => bitsOfBytes (tag :: command :: arguments)
  | .report tag kind body => bitsOfBytes (tag :: kind :: body)

/-- A position in a notice: column 7, row 6 (section 9.2). -/
def posBits (p : Pos) : List Bool := bitsOfNat 7 p.col.val ++ bitsOfNat 6 p.row.val

/-- A notice's bits from the kind to the last payload bit (section 9.2). -/
def uncheckedBits (n : Notice) : List Bool :=
  let payload := closeBits (fieldBits n.body)
  bitsOfNat 4 (kindCode n.body) ++ posBits n.src ++ posBits n.dst ++ bitsOfNat 6 (payload.length / 8) ++ payload

/-- A notice's bits as sent, the check last (section 9.2, R156). -/
def noticeBits (n : Notice) : List Bool := uncheckedBits n ++ bitsOfByte (crc8 (uncheckedBits n))

/-- Whether a count lies within the range of its kind, and a request or report within 2..40 bytes (R155). -/
def countInRange : NoticeBody → Bool
  | .holdList pairs => decide (pairs.length ≤ 16)
  | .loanList pairs => decide (pairs.length ≤ 16)
  | .fillList _ positions => decide (positions.length ≤ 32)
  | .serviceRequest _ _ arguments => decide (arguments.length ≤ 38)
  | .report _ _ body => decide (body.length ≤ 38)
  | _ => true

/-- The site in the 8 bits from `start` (R155). -/
def readSite (bits : List Bool) (start : Nat) : Site := Site.ofIndex ⟨natSlice bits start 8 % 256, by omega⟩

/-- The cell in the 10 bits from `start` (R155). -/
def readCell (bits : List Bool) (start : Nat) : Cell := Cell.ofIndex ⟨natSlice bits start 10 % 1024, by omega⟩

/-- The 4-bit field from `start`. -/
def readNibble (bits : List Bool) (start : Nat) : Fin 16 := ⟨natSlice bits start 4 % 16, by omega⟩

/-- The byte from `start`. -/
def readByte (bits : List Bool) (start : Nat) : Byte := BitVec.ofNat 8 (natSlice bits start 8)

/-- The bytes of a payload of `length` bytes, from byte `first` on. -/
def readBytes (bits : List Bool) (first length : Nat) : List Byte :=
  (List.range (length - first)).map fun n => readByte bits (8 * (first + n))

/-- The pairs of a HOLD_LIST or LOAN_LIST payload (section 9.2). -/
def readPairs (bits : List Bool) : List LoanPair :=
  (List.range (natSlice bits 0 5)).map fun n => ⟨readSite bits (5 + 18 * n), readCell bits (13 + 18 * n)⟩

/-- The positions of a FILL_LIST payload (section 9.2). -/
def readPositions (bits : List Bool) : List (Fin 32) :=
  (List.range (natSlice bits 2 6)).map fun n => ⟨natSlice bits (8 + 5 * n) 5 % 32, by omega⟩

/-- What a payload of `length` bytes carries under a kind code; none when the kind is not 0..11 or the count or the length does not fit it (R155). -/
def readBody (kind length : Nat) (payload : List Bool) : Option NoticeBody :=
  let fixed (bytes : Nat) (body : NoticeBody) : Option NoticeBody := if length = bytes then some body else none
  let counted (body : NoticeBody) : Option NoticeBody :=
    if countInRange body && decide (length = byteCount (fieldBits body).length) then some body else none
  match kind with
  | 0 => fixed 0 .sectionRestart
  | 1 => fixed 3 (.grant (readSite payload 0) (readCell payload 8))
  | 2 => fixed 3 (.refuse (readSite payload 0) (readCell payload 8) (readNibble payload 18))
  | 3 => fixed 3 (.wait (readSite payload 0) (readCell payload 8))
  | 4 => fixed 3 (.revoke (readSite payload 0) (readCell payload 8))
  | 5 => fixed 3 (.release (readSite payload 0) (readCell payload 8))
  | 6 => fixed 3 (.claim (readCell payload 0) (readSite payload 10) (readNibble payload 18))
  | 7 => counted (.holdList (readPairs payload))
  | 8 => counted (.loanList (readPairs payload))
  | 9 => counted (.fillList (edgeOfCode (natSlice payload 0 2)) (readPositions payload))
  | 10 => if 2 ≤ length ∧ length ≤ 40 then
      some (.serviceRequest (readByte payload 0) (readByte payload 8) (readBytes payload 2 length)) else none
  | 11 => if 2 ≤ length ∧ length ≤ 40 then
      some (.report (readByte payload 0) (readByte payload 8) (readBytes payload 2 length)) else none
  | _ => none

/-- The position in the 13 bits from `start` (section 9.2). -/
def readPos (bits : List Bool) (start : Nat) : Pos :=
  ⟨⟨natSlice bits start 7 % 128, by omega⟩, ⟨natSlice bits (start + 7) 6 % 64, by omega⟩⟩

/-- The notice that the bits a port read spell, none when they are not a well-formed notice (R155, R156). -/
def readNotice (bits : List Bool) : Option Notice :=
  let length := natSlice bits 30 6
  if bits.length ≠ 44 + 8 * length then none
  else if crc8 (bits.take (36 + 8 * length)) ≠ readByte bits (36 + 8 * length) then none
  else (readBody (natSlice bits 0 4) length (bitSlice bits 36 (8 * length))).map fun body =>
    ⟨readPos bits 4, readPos bits 17, body⟩

end Sys2Proof.Machine
end

