-- ==== Sys2Proof/Machine/Links.lean ====
section
/-! DEFINITION. Handing notices to the Link Ports (sections 9.1, 9.4), the filled edge sets and the FILL_LISTs that tell their changes (section 8.3), and the events of a port's sending (section 9.3). -/

namespace Sys2Proof.Machine

/-- The kinds of the answer queue: GRANT, REFUSE, WAIT and REPORT (R159). -/
def isAnswer : NoticeBody → Bool
  | .grant .. => true
  | .refuse .. => true
  | .wait .. => true
  | .report .. => true
  | _ => false

/-- Whether a new list replaces a waiting notice: the same kind for the same destination, for FILL_LIST the same edge (R160). -/
def replaces (new old : Notice) : Bool :=
  match new.body, old.body with
  | .fillList edge _, .fillList edge' _ => decide (edge = edge')
  | .holdList _, .holdList _ => decide (new.dst = old.dst)
  | .loanList _, .loanList _ => decide (new.dst = old.dst)
  | _, _ => false

/-- The queue with the waiting list that the new one replaces taken out and the new one in its place; none when it replaces nothing (R160). -/
def replaceWaiting (new : Notice) : List Notice → Option (List Notice)
  | [] => none
  | old :: rest => if replaces new old then some (new :: rest) else (replaceWaiting new rest).map (old :: ·)

/-- A notice handed to the answer queue of a port; a full queue drops it and sets QUEUE_FULL (R161). -/
def enqueueAnswer (p : PortId) (n : Notice) (s : State) : State :=
  let port := s.port p
  if port.answers.length < Config.answerPlaces then
    s.setPort p { port with answers := port.answers ++ [n] }
  else s.raise .queueFull

/-- A notice handed to the notice queue of a port: it replaces a waiting list (R160), joins at the end, or is dropped with QUEUE_FULL (R161). -/
def enqueueNotice (p : PortId) (n : Notice) (s : State) : State :=
  let port := s.port p
  match replaceWaiting n port.notices with
  | some queue => s.setPort p { port with notices := queue }
  | none =>
    if port.notices.length < Config.noticePlaces then
      s.setPort p { port with notices := port.notices ++ [n] }
    else s.raise .queueFull

/-- A notice placed in the queue of its kind on a port (R159). -/
def enqueue (p : PortId) (n : Notice) (s : State) : State :=
  if isAnswer n.body then enqueueAnswer p n s else enqueueNotice p n s

/-- What a block hands the Link Ports for a direction: addressed to that neighbour's position, on the port of R154. Nothing goes toward a NONE direction (R9). -/
def sendTo (d : Dir) (body : NoticeBody) (s : State) : State :=
  match s.neighbour d with
  | none => s
  | some nb => enqueue (s.position.portTo nb.position) ⟨s.position, nb.position, body⟩ s

/-- The positions of a filled edge set in ascending order (R145). -/
def State.filledPositions (s : State) (edge : Edge) : List (Fin 32) :=
  (List.finRange 32).filter fun p => (s.seam.filledEdges.get edge).get p

/-- The FILL_LIST of an edge, built and handed on for the neighbour across it (R146). -/
def sendFillList (edge : Edge) (s : State) : State :=
  sendTo edge.toDir (.fillList edge (s.filledPositions edge)) s

/-- A filled edge set with one position put in or taken out (R145). -/
def State.markEdge (s : State) (edge : Edge) (p : Fin 32) (filled : Bool) : State :=
  { s with seam := { s.seam with
      filledEdges := s.seam.filledEdges.set edge ((s.seam.filledEdges.get edge).set p filled) } }

/-- The sets of every edge a cell lies on, brought to what the cell now is (R145). -/
def State.markCell (s : State) (c : Cell) (filled : Bool) : State :=
  c.edges.foldl (fun s edge => s.markEdge edge (c.edgePosition edge) filled) s

/-- The FILL_LISTs of every edge a cell lies on, the N or S edge first (R146). -/
def sendFillLists (c : Cell) (s : State) : State :=
  c.edges.foldl (fun s edge => sendFillList edge s) s

/-- The Remap Table tells a change of the filled edge cells; each edge touched sends its FILL_LIST unless the part enters RUN or restarts (R76, R146). -/
def tellFilled (announce : Bool) (c : Cell) (before after : Bool) (s : State) : State :=
  if before = after then s
  else if announce then sendFillLists c (s.markCell c after) else s.markCell c after

/-! ## Sending on a line (section 9.3) -/

/-- The port with no notice in transmission and its fail count at 0: the notice has gone through or is dropped (R157, R158, R162). -/
def Port.finished (port : Port) : Port :=
  { port with current := none, attempt := none, dropAfter := false, failCount := 0 }

/-- A notice taken from a queue becomes the notice in transmission and an attempt begins; the fail count is set to 0 (R157). -/
def Port.take (port : Port) (n : Notice) : Port :=
  { port with current := some n, attempt := some (noticeBits n), dropAfter := false, failCount := 0 }

/-- An idle gap at a port (R157). A READY port with no attempt on the line attempts its notice in transmission again, or takes the oldest answer, or else the oldest notice. -/
def Port.idleGap (port : Port) : Port :=
  if port.state = .ready ∧ port.attempt = none then
    match port.current, port.answers, port.notices with
    | some n, _, _ => { port with attempt := some (noticeBits n) }
    | none, n :: rest, _ => { port with answers := rest }.take n
    | none, [], n :: rest => { port with notices := rest }.take n
    | none, [], [] => port
  else port

/-- The attempt on the line was won: the notice has gone through (R157). -/
def Port.won (port : Port) : Port := if port.attempt = none then port else port.finished

/-- The attempt on the line lost contention: the notice stays in transmission (R157), or is dropped when a section restart came during the attempt (R162). -/
def Port.lost (port : Port) : Port :=
  if port.attempt = none then port
  else if port.dropAfter then port.finished
  else { port with attempt := none }

/-- Whether a failure of the attempt on the line is the eighth (R158). -/
def Port.failsQuiet (port : Port) : Bool :=
  port.attempt.isSome && !port.dropAfter && decide (Config.failLimit ≤ port.failCount + 1)

/-- The attempt on the line failed: the fail count rises, and the eighth failure drops the notice and makes the port QUIET (R158); after a section restart the notice is dropped (R162). -/
def Port.failed (port : Port) : Port :=
  if port.attempt = none then port
  else if port.dropAfter then port.finished
  else if port.failsQuiet then { port.finished with state := .quiet, quietTimer := some 0 }
  else { port with attempt := none, failCount := port.failCount + 1 }

/-- The quiet timer reached its limit: a QUIET port becomes READY (R158). -/
def Port.quietOver (port : Port) : Port :=
  if port.state = .quiet then { port with state := .ready, quietTimer := none } else port

/-- What a section restart does to a port: both queues are emptied, and an attempt on the line is its notice's last (R162; log entry 13). -/
def Port.restarted (port : Port) : Port :=
  { port with answers := [], notices := [], dropAfter := port.attempt.isSome }

/-- IDLE_GAP_ATTEMPT (R157). -/
def execIdleGapAttempt (p : PortId) (s : State) : Host.Outcome State Fault Refusal :=
  .next (s.setPort p (s.port p).idleGap)

/-- ATTEMPT_WON (R157). -/
def execAttemptWon (p : PortId) (s : State) : Host.Outcome State Fault Refusal :=
  .next (s.setPort p (s.port p).won)

/-- CONTENTION_LOST (R157, R162). The winner's notice, read meanwhile, is a command of its own. -/
def execContentionLost (p : PortId) (s : State) : Host.Outcome State Fault Refusal :=
  .next (s.setPort p (s.port p).lost)

/-- A failed attempt at a port, with LINK_QUIET_SEEN at the eighth (R158). -/
def portFailed (p : PortId) (s : State) : State :=
  let t := s.setPort p (s.port p).failed
  if (s.port p).failsQuiet then t.raise .linkQuietSeen else t

/-- ATTEMPT_FAILED (R158). -/
def execAttemptFailed (p : PortId) (s : State) : Host.Outcome State Fault Refusal :=
  .next (portFailed p s)

/-- QUIET_TIMER_EXPIRY (R158). -/
def execQuietTimerExpiry (p : PortId) (s : State) : Host.Outcome State Fault Refusal :=
  .next (s.setPort p (s.port p).quietOver)

end Sys2Proof.Machine
end

