-- ==== Sys2Proof/Machine/Store.lean ====
section
/-! DEFINITION. The Store Interface: the layout of a slot (R169), the pending write list (R177, R179), the writes (R177, R178), and the clearing and rewriting of the retired list (R180). -/

namespace Sys2Proof.Machine

/-! ## The layout of the store (R169) -/

/-- The address of a slot of the retired list area (R169). -/
def slotAddress (slot : Fin 128) : Nat := 0x2000 + 4 * slot.val

/-- The state marking of an empty slot. -/
def markingEmpty : Byte := 0xFF#8
/-- The state marking of a live slot. -/
def markingLive : Byte := 0xA5#8
/-- The state marking of a void slot. -/
def markingVoid : Byte := 0x00#8

/-- The origin code of a slot, 0 for DETECTED and 1 for MARKED; STORED is written as DETECTED (R169, R180). -/
def originCode : Origin → Nat
  | .detected => 0
  | .stored => 0
  | .marked => 1

/-- The 16 bits of cell, origin and closing bits of a slot (R169). -/
def slotBits (c : Cell) (o : Origin) : List Bool :=
  bitsOfNat 10 c.index.val ++ bitsOfNat 2 (originCode o) ++ bitsOfNat 4 0

/-- The four bytes of a live slot (R169). -/
def slotBytes (c : Cell) (o : Origin) : List Byte :=
  markingLive :: bytesOfBits (slotBits c o) ++ [crc8 (slotBits c o)]

/-- The bytes an operation writes from its slot's address on: an append all four, a void the marking alone (R169). -/
def StoreJob.bytes : StoreJob → List Byte
  | .append c o _ => slotBytes c o
  | .void _ => [markingVoid]
  | .erase => []

/-- Whether the slot read back shows what was written (R178; log entry 15). -/
def StoreJob.readBackMatches (job : StoreJob) (readBack : Tbl 4 Byte) : Bool :=
  decide (readBack.data.take job.bytes.length = job.bytes)

/-- A slot as read at the load (R174). -/
inductive SlotRead
  | empty
  | void
  | live (cell : Cell)
  | broken
  deriving DecidableEq, Repr

/-- What the four bytes of a slot say; the check is tested for a slot marked live (R169, R174). -/
def readSlot (marking high low check : Byte) : SlotRead :=
  if marking = markingEmpty then .empty
  else if marking = markingVoid then .void
  else if marking = markingLive ∧ crc8Bytes [high, low] = check then
    .live (Cell.ofIndex ⟨be16 high low / 64 % 1024, by omega⟩)
  else .broken

/-! ## The slot map and the pending write list -/

/-- The LIVE slot that holds a cell, the lowest (R174: at most one). -/
def Store.liveSlot (st : Store) (c : Cell) : Option (Fin 128) :=
  (List.finRange 128).find? fun slot => decide (st.slots.get slot = .live c)

/-- The lowest EMPTY slot (R177). -/
def Store.emptySlot (st : Store) : Option (Fin 128) :=
  (List.finRange 128).find? fun slot => decide (st.slots.get slot = .empty)

/-- An operation put at the end of the pending write list; a full list refuses it and sets STORE_FULL (R177, R179). -/
def queueWrite (op : PendingWrite) (s : State) : State :=
  if s.store.pendingWrites.length < Config.pendingWritePlaces then
    { s with store := { s.store with pendingWrites := s.store.pendingWrites ++ [op] } }
  else s.raise .storeFull

/-- A newly RETIRED entry's append is queued; in MISSING it is discarded without a flag (R170, R177). -/
def storeAppend (c : Cell) (o : Origin) (s : State) : State :=
  if s.storeMissing then s else queueWrite (.append c o) s

/-- Whether an operation is an append of a cell. -/
def PendingWrite.appends (c : Cell) : PendingWrite → Bool
  | .append c' _ => decide (c' = c)
  | .void _ => false

/-- The list with the most recent append of a cell taken out and the gap closed (R179). -/
def removeLastAppend (c : Cell) (ops : List PendingWrite) : List PendingWrite :=
  (ops.reverse.eraseP (PendingWrite.appends c)).reverse

/-- The Store Interface is told that a cell's RETIRED entry is removed: it cancels the cell's append, or queues a void of its LIVE slot, or does nothing (R179). -/
def storeRemoval (c : Cell) (s : State) : State :=
  if s.storeMissing then s
  else if s.store.pendingWrites.any (PendingWrite.appends c) then
    { s with store := { s.store with pendingWrites := removeLastAppend c s.store.pendingWrites } }
  else match s.store.liveSlot c with
    | some slot => queueWrite (.void slot) s
    | none => s

/-! ## Writes (R177, R178) -/

/-- Whether a pending operation is one for a cell: its append, or the void of the slot mapped LIVE with it (R178; log entry 21). -/
def PendingWrite.concerns (st : Store) (c : Cell) : PendingWrite → Bool
  | .append c' _ => decide (c' = c)
  | .void slot => decide (st.slots.get slot = .live c)

/-- Whether the pending write list or the rewrite list holds a later operation for a cell (R178). -/
def Store.laterOperation (st : Store) (c : Cell) : Bool :=
  st.pendingWrites.any (PendingWrite.concerns st c) || st.rewrite.contains c

/-- A completed append sets the RETIRED entry's persisted field, when no later operation for the cell waits (R178). -/
def completeAppend (c : Cell) (s : State) : State :=
  if s.store.laterOperation c then s
  else s.setEntries (changeEntry c (fun e => e.withPersisted true) s.entries)

/-- An append whose turn has come: complete at once when a LIVE slot holds the cell, else written into the lowest EMPTY slot, else dropped with STORE_FULL (R177). -/
def beginAppend (c : Cell) (o : Origin) (s : State) : State :=
  match s.store.liveSlot c with
  | some _ => completeAppend c s
  | none =>
    match s.store.emptySlot with
    | none => s.raise .storeFull
    | some slot =>
      { s with store := { s.store with
          state := .writing, slots := s.store.slots.set slot (.live c),
          job := some (.append c o slot), jobTimer := some 0 } }

/-- A void whose turn has come: its marking is being written; the slot keeps its mapping until the write completes (R177). -/
def beginVoid (slot : Fin 128) (s : State) : State :=
  { s with store := { s.store with state := .writing, job := some (.void slot), jobTimer := some 0 } }

/-- Whether a cell of the rewrite list is passed over: its entry has been removed, or a LIVE slot already holds it (R180). -/
def State.passedOver (s : State) (c : Cell) : Bool :=
  (s.retiredEntry c).isNone || (s.store.liveSlot c).isSome

/-- The origin a rewritten slot is given: the entry's, with DETECTED for STORED (R180). -/
def State.rewriteOrigin (s : State) (c : Cell) : Origin :=
  match s.retiredEntry c with
  | some e => if e.origin = .marked then .marked else .detected
  | none => .detected

/-- The next operation's write begins when the store is IDLE in RUN: the rewrite list first, cells passed over skipped, then the oldest pending operation (R177, R180; log entry 20).
After an operation that ended by its time limit the model asks for no further status read of ready (R169; log entry 26). -/
def beginWrite (s : State) : State :=
  if s.mode = .run ∧ s.store.state = .idle then
    match s.store.rewrite.dropWhile s.passedOver with
    | c :: rest => beginAppend c (s.rewriteOrigin c) { s with store := { s.store with rewrite := rest } }
    | [] =>
      match s.store.pendingWrites with
      | .append c o :: rest =>
        beginAppend c o { s with store := { s.store with rewrite := [], pendingWrites := rest } }
      | .void slot :: rest =>
        beginVoid slot { s with store := { s.store with rewrite := [], pendingWrites := rest } }
      | [] => { s with store := { s.store with rewrite := [] } }
  else s

/-- The erase of the retired list area begins (R180). -/
def beginErase (s : State) : State :=
  { s with store := { s.store with
      state := .erasing, job := some .erase, jobTimer := some 0, eraseWaits := false } }

/-- The store with no operation in progress, IDLE again (R178, R180). -/
def Store.jobEnded (st : Store) : Store := { st with state := .idle, job := none, jobTimer := none }

/-- An erase that waited for the write in progress begins when that write has ended (R180), at once also when the write ended by its time limit, without a status read of ready (R169; log entry 26). -/
def eraseIfWaiting (s : State) : State := if s.store.eraseWaits then beginErase s else s

/-- A write ends, completed or in error (R178). -/
def endWrite (completed : Bool) (s : State) : State :=
  match s.store.job with
  | some (.append c _ slot) =>
    eraseIfWaiting <|
      if completed then completeAppend c { s with store := s.store.jobEnded }
      else { s with store := { s.store.jobEnded with slots := s.store.slots.set slot .void } }.raise .storeFault
  | some (.void slot) =>
    eraseIfWaiting <|
      if completed then { s with store := { s.store.jobEnded with slots := s.store.slots.set slot .void } }
      else { s with store := s.store.jobEnded }.raise .storeFault
  | _ => s

/-- Whether the write in progress completed: no error reported, and the slot read back as written (R178). -/
def State.writeCompleted (s : State) (error : Bool) (readBack : Tbl 4 Byte) : Bool :=
  !error && s.store.job.any fun job => job.readBackMatches readBack

/-! ## Clearing and rewriting (R180) -/

/-- The cells of the RETIRED entries in ascending position. -/
def retiredCells (es : List Entry) : List Cell := (es.filter Entry.isRetired).map Entry.cell

/-- CLEAR_RETIRED's effect: the lists are rebuilt, every RETIRED entry is not persisted, and the erase begins, waits for a write, or is the one in progress; nothing in MISSING (R170, R180). -/
def clearRetiredList (s : State) : State :=
  if s.storeMissing then s
  else
    let t := { s with
      entries := s.entries.map fun e => e.withPersisted false
      store := { s.store with pendingWrites := [], rewrite := retiredCells s.entries } }
    match s.store.state with
    | .writing => { t with store := { t.store with eraseWaits := true } }
    | .erasing => t
    | _ => beginErase t

/-- Whether an operation is not a void. -/
def PendingWrite.isAppend : PendingWrite → Bool
  | .append .. => true
  | .void _ => false

/-- An erase ends, finished or failed: the slot map is set, the store is IDLE again and the voids in the pending write list are discarded (R180). -/
def endErase (finished : Bool) (s : State) : State :=
  let ended : Store := { s.store.jobEnded with
    pendingWrites := s.store.pendingWrites.filter PendingWrite.isAppend }
  if finished then { s with store := { ended with slots := Tbl.fill 128 .empty } }
  else { s with store := { ended with slots := Tbl.fill 128 .void, rewrite := [] } }.raise .storeFault

/-! ## The commands -/

/-- STORE_WRITE_BEGIN (R177). -/
def execStoreWriteBegin (s : State) : Host.Outcome State Fault Refusal := .next (beginWrite s)

/-- STORE_WRITE_END (R178): the status reports the write in progress finished or in error, and the slot is read back. -/
def execStoreWriteEnd (error : Bool) (readBack : Tbl 4 Byte) (s : State) : Host.Outcome State Fault Refusal :=
  .next (if s.store.state = .writing then endWrite (s.writeCompleted error readBack) s else s)

/-- STORE_WRITE_TIMEOUT (R178): no report within 50 ticks is a write error. -/
def execStoreWriteTimeout (s : State) : Host.Outcome State Fault Refusal :=
  .next (if s.store.state = .writing then endWrite false s else s)

/-- STORE_ERASE_END (R180). -/
def execStoreEraseEnd (error : Bool) (s : State) : Host.Outcome State Fault Refusal :=
  .next (if s.store.state = .erasing then endErase (!error) s else s)

/-- STORE_ERASE_TIMEOUT (R180): an erase not finished within 500 ticks has failed. -/
def execStoreEraseTimeout (s : State) : Host.Outcome State Fault Refusal :=
  .next (if s.store.state = .erasing then endErase false s else s)

end Sys2Proof.Machine
end

