-- ==== Sys2Proof/Machine/Remap.lean ====
section
/-! DEFINITION. The Remap Table: remedies and their choice, claims beginning, sites given and freed with the table, admission, conversion, removal (chapter 4, R85 to R87, R116). -/

namespace Sys2Proof.Machine

/-! ## Writing remedies -/

/-- A CLAIM for a cell's home site, handed on for its owner (R116). -/
def sendClaim (c : Cell) (owner : OwnerDir) (site : Site) (attempt : Nat) (s : State) : State :=
  sendTo owner.toDir (.claim c site ⟨(attempt - 1) % 16, by omega⟩) s

/-- A RELEASE of a site and cell, handed on for a direction (R125). -/
def sendRelease (d : Dir) (site : Site) (c : Cell) (s : State) : State := sendTo d (.release site c) s

/-- A remedy that becomes ASKING begins a claim: its CLAIM is built and handed on (R74, R116). -/
def beginClaim (c : Cell) (r : Remedy) (s : State) : State :=
  match r with
  | .asking owner site attempt _ => sendClaim c owner site attempt s
  | _ => s

/-- A remedy written into a cell's RETIRED entry, with the CLAIM that ASKING begins and the change of the filled edge cells told (R71, R76; log entry 12).
A write for a cell without a RETIRED entry is ignored. -/
def giveRemedy (announce : Bool) (c : Cell) (r : Remedy) (s : State) : State :=
  match s.retiredEntry c with
  | none => s
  | some e =>
    tellFilled announce c e.isFilled r.isFilled
      (beginClaim c r (s.setEntries (changeEntry c (fun e => e.withRemedy r) s.entries)))

/-! ## Own sites -/

/-- A site becomes FREE from HELD, OWN or LENT and is offered, in the same operation, to the first own cell of its quad that waits in FILL(QUAD_BUSY) (R86, R87). -/
def freeSite (announce : Bool) (site : Site) (s : State) : State :=
  let freed := s.setSiteState site .free
  match site.quadCells.find? fun c => decide (freed.remedyOf c = some (.fill .quadBusy)) with
  | none => freed
  | some c => giveRemedy announce c (.ownSpare site) (freed.setSiteState site (.own c))

/-- The removal of an OWN_SPARE entry frees its site; a release of a site that is not OWN for the cell is ignored (R70, R86). -/
def releaseOwnSite (c : Cell) (site : Site) (s : State) : State :=
  if (s.site site).state = .own c then freeSite true site s else s

/-! ## Choosing a remedy (section 4.3) -/

/-- The tests of R74 for a cell whose home site is foreign. -/
def claimTests (owner : OwnerDir) (site : Site) (s : State) : Remedy :=
  match s.neighbour owner.toDir with
  | none => .fill .noNeighbour
  | some nb =>
    if !s.cfg.lending then .fill .lendingOff
    else if nb.presence = .present then .asking owner site 1 0
    else .fill .ownerSilent

/-- The FILL reason of an own home site that is not FREE (R73). -/
def busyReason : SiteState → FillReason
  | .absent => .siteAbsent
  | .faulty => .siteFaulty
  | _ => .quadBusy

/-- The choice of a RETIRED entry's remedy from the cell's home site (R72 to R74): a FREE own site becomes OWN for the cell in the same operation (R85). -/
def chooseRemedy (announce : Bool) (c : Cell) (s : State) : State :=
  match s.retiredEntry c with
  | none => s
  | some _ =>
    match c.home with
    | .own site =>
      if (s.site site).state = .free then
        giveRemedy announce c (.ownSpare site) (s.setSiteState site (.own c))
      else giveRemedy announce c (.fill (busyReason (s.site site).state)) s
    | .foreign owner site => giveRemedy announce c (claimTests owner site s) s

/-- A choice made again, or a re-claim, for an entry whose remedy still calls for it when its turn comes (R79, R127). -/
def rechoose (announce : Bool) (calls : Cell → Remedy → Bool) (s : State) (c : Cell) : State :=
  if (s.remedyOf c).any (calls c) then chooseRemedy announce c s else s

/-- The choice made again for every RETIRED entry whose remedy calls for it, in ascending entry position (R72, R79, R127). -/
def rechooseAll (announce : Bool) (calls : Cell → Remedy → Bool) (s : State) : State :=
  (s.entries.map Entry.cell).foldl (rechoose announce calls) s

/-! ## Admission, conversion, replacement, removal (section 4.2) -/

/-- The answer to an admission (R66, R67). -/
inductive Admission
  | admitted
  | admittedByEviction (evicted : Cell)
  | refused
  deriving DecidableEq, Repr

/-- An admission as DIM: appended as the newest when a place is free, refused otherwise (R66). -/
def enterDim (c : Cell) (gains : Rgb Nat) (s : State) : Admission × State :=
  if s.entries.length < Config.entryPlaces then
    (.admitted, s.setEntries (s.entries ++ [⟨c, .detected, .dim gains⟩]))
  else (.refused, s)

/-- A new RETIRED entry appended as the newest, its remedy chosen, and the entry handed to the Store Interface (R67). -/
def appendRetired (c : Cell) (o : Origin) (retiredAt : Nat) (s : State) : State :=
  storeAppend c o (chooseRemedy true c
    (s.setEntries (s.entries ++ [⟨c, o, .retired none retiredAt false⟩])))

/-- An admission as RETIRED: into a free place, by evicting the oldest DIM entry, or refused (R67). -/
def enterRetired (c : Cell) (o : Origin) (retiredAt : Nat) (s : State) : Admission × State :=
  if s.entries.length < Config.entryPlaces then (.admitted, appendRetired c o retiredAt s)
  else match oldestDim s.entries with
    | some e => (.admittedByEviction e.cell,
        appendRetired c o retiredAt (s.setEntries (removeCell e.cell s.entries)))
    | none => (.refused, s)

/-- A DIM entry changed to RETIRED where it stands, with no remedy yet (R68). -/
def Entry.converted (e : Entry) (o : Origin) (retiredAt : Nat) : Entry :=
  match e.body with
  | .dim _ => ⟨e.cell, o, .retired none retiredAt false⟩
  | .retired .. => e

/-- A conversion from DIM to RETIRED in place; one that names no DIM entry is ignored (R68). -/
def convertEntry (c : Cell) (o : Origin) (retiredAt : Nat) (s : State) : State :=
  match s.entryOf c with
  | some e =>
    if e.isRetired then s
    else storeAppend c o (chooseRemedy true c
      (s.setEntries (changeEntry c (fun e => e.converted o retiredAt) s.entries)))
  | none => s

/-- A DIM entry with other gains; a RETIRED entry is unchanged (R69). -/
def Entry.withGains (e : Entry) (gains : Rgb Nat) : Entry :=
  match e.body with
  | .dim _ => { e with body := .dim gains }
  | .retired .. => e

/-- A replacement of gains (R69). -/
def replaceGains (c : Cell) (gains : Rgb Nat) (s : State) : State :=
  s.setEntries (changeEntry c (fun e => e.withGains gains) s.entries)

/-- What a removed remedy sends to its owner: a RELEASE for LOAN and ASKING (R70, R125). -/
def releaseToOwner (c : Cell) (r : Option Remedy) (s : State) : State :=
  match r with
  | some (.loan owner site) => sendRelease owner.toDir site c s
  | some (.asking owner site _ _) => sendRelease owner.toDir site c s
  | _ => s

/-- The own site a removed remedy gives back (R70). -/
def releaseToSite (c : Cell) (r : Option Remedy) (s : State) : State :=
  match r with
  | some (.ownSpare site) => releaseOwnSite c site s
  | _ => s

/-- A removal: the remedy released by its kind, the entry taken out, the filled edge cells told, a freed site offered, the Store Interface told (R70; log entry 12). A removal that names no entry is ignored. -/
def removeEntry (c : Cell) (s : State) : State :=
  match s.entryOf c with
  | none => s
  | some e =>
    if e.isRetired then
      let t := releaseToOwner c e.remedy s
      let t := tellFilled true c e.isFilled false (t.setEntries (removeCell c t.entries))
      storeRemoval c (releaseToSite c e.remedy t)
    else s.setEntries (removeCell c s.entries)

end Sys2Proof.Machine
end

