-- ==== Sys2Proof/Machine/Spares.lean ====
section
/-! DEFINITION. The Spare Allocator: site verdicts (section 5.2), the owner side of claims (section 5.4), loans taken back, and the loans it supplies for LOAN_LISTs (R95). -/

namespace Sys2Proof.Machine

/-- The 256 sites in ascending index. -/
def allSites : List Site := (List.finRange 256).map Site.ofIndex

/-! ## Site verdicts -/

/-- The last verdict a verdict leaves behind (R43, R82). -/
def Verdict.toLast : Verdict → LastVerdict
  | .healthy => .healthy
  | .weak => .weak
  | .fault => .fault
  | .none => .none

/-- Whether a site's verdicts are only recorded: ABSENT and FAULTY (R82). -/
def SiteState.recordsOnly : SiteState → Bool
  | .absent => true
  | .faulty => true
  | _ => false

/-- What else happens when a site in a state becomes FAULTY: an OWN cell is filled, a LENT borrower is sent a REVOKE (R83). -/
def faultConsequence (site : Site) (old : SiteState) (s : State) : State :=
  match old with
  | .own c => giveRemedy true c (.fill .siteFaulty) s
  | .lent d c => sendTo d.toDir (.revoke site c) s
  | _ => s

/-- A site verdict taken whole: recorded, then acted on by the verdict and the site's state (R82, R83). -/
def takeSiteVerdict (v : SiteVerdict) (s : State) : State :=
  let old := s.site v.site
  let recorded := { old with lastVerdict := v.verdict.toLast }
  if old.state.recordsOnly then s.setSite v.site recorded
  else match v.verdict with
    | .healthy => s.setSite v.site { recorded with proven := true, faultRun := 0 }
    | .weak => s.setSite v.site { recorded with proven := true, faultRun := 0 }
    | .none => s.setSite v.site recorded
    | .fault =>
      let failed := { recorded with proven := false, faultRun := min s.cfg.k (old.faultRun + 1) }
      if s.cfg.k ≤ old.faultRun + 1 then
        faultConsequence v.site old.state (s.setSite v.site { failed with state := .faulty })
      else s.setSite v.site failed

/-! ## The owner side of a claim -/

/-- The reasons of a REFUSE (R155). -/
inductive RefuseReason
  | inUse | faulty | noSite | wrongSite | lendingOff
  deriving DecidableEq, Repr

/-- The code of a refusal's reason (R155). -/
def RefuseReason.code : RefuseReason → Fin 16
  | .inUse => 1
  | .faulty => 2
  | .noSite => 3
  | .wrongSite => 4
  | .lendingOff => 5

/-- A request handed to the Probe Engine to append a site's spare diagonal to the override list (R89, R34). -/
def requestAppend (site : Site) (s : State) : State :=
  { s with handed := { s.handed with appendRequests := s.handed.appendRequests ++ [site.diagonal] } }

/-- A REFUSE handed on for a claimant's direction (R88). -/
def refuseClaim (d : Dir) (site : Site) (c : Cell) (why : RefuseReason) (s : State) : State :=
  sendTo d (.refuse site c why.code) s

/-- A site made LENT to a claimant, answered GRANT (R88). -/
def lendSite (d : BorrowerDir) (site : Site) (c : Cell) (s : State) : State :=
  sendTo d.toDir (.grant site c) (s.setSiteState site (.lent d c))

/-- A site made HELD for a claimant with the hold timer at 0, its diagonal asked for, answered WAIT (R89). -/
def holdSite (d : BorrowerDir) (site : Site) (c : Cell) (s : State) : State :=
  sendTo d.toDir (.wait site c) (requestAppend site (s.setSiteState site (.held d c 0)))

/-- Rows 3 to 10 of R88 for a claimant in a borrower direction. -/
def answerFromSite (d : BorrowerDir) (c : Cell) (site : Site) (s : State) : State :=
  let record := s.site site
  match record.state with
  | .absent => refuseClaim d.toDir site c .noSite s
  | .faulty => refuseClaim d.toDir site c .faulty s
  | .free => if record.proven then lendSite d site c s else holdSite d site c s
  | .held d' c' _ =>
    if d' = d ∧ c' = c then
      if record.proven then lendSite d site c s else sendTo d.toDir (.wait site c) s
    else refuseClaim d.toDir site c .inUse s
  | .lent d' c' =>
    if d' = d ∧ c' = c then sendTo d.toDir (.grant site c) s else refuseClaim d.toDir site c .inUse s
  | .own _ => refuseClaim d.toDir site c .inUse s

/-- The owner's answer to a CLAIM and its change of the site record, by the tests of R88 in their order.
The quad test passes only for a cell of the W, N or NW neighbour (R12). -/
def takeClaim (d : Dir) (c : Cell) (site : Site) (s : State) : State :=
  if !c.inQuadFrom d site then refuseClaim d site c .wrongSite s
  else if !s.cfg.lending then refuseClaim d site c .lendingOff s
  else match d.borrower with
    | none => refuseClaim d site c .wrongSite s
    | some b => answerFromSite b c site s

/-- A RELEASE frees the site when it is LENT to that direction for that cell; otherwise it is ignored (R92). -/
def takeRelease (d : Dir) (site : Site) (c : Cell) (s : State) : State :=
  match d.borrower with
  | none => s
  | some b => if (s.site site).state = .lent b c then freeSite true site s else s

/-- One site against a HOLD_LIST: a loan to the sender that the list does not name ends (R93). -/
def checkHold (b : BorrowerDir) (pairs : List LoanPair) (s : State) (site : Site) : State :=
  match (s.site site).state with
  | .lent d c => if d = b ∧ ¬ (⟨site, c⟩ : LoanPair) ∈ pairs then freeSite true site s else s
  | _ => s

/-- A HOLD_LIST replaces what this tile knows of the sender's loans, in ascending site index (R93). -/
def takeHoldList (d : Dir) (pairs : List LoanPair) (s : State) : State :=
  match d.borrower with
  | none => s
  | some b => allSites.foldl (checkHold b pairs) s

/-- Whether a site is LENT to, or HELD for, a direction that is lost (R94). -/
def SiteState.dependsOn (lost : BorrowerDir → Bool) : SiteState → Bool
  | .lent d _ => lost d
  | .held d _ _ => lost d
  | _ => false

/-- A site that depended on a lost neighbour becomes FREE and is offered (R94). -/
def freeIfLost (announce : Bool) (lost : BorrowerDir → Bool) (s : State) (site : Site) : State :=
  if (s.site site).state.dependsOn lost then freeSite announce site s else s

/-- Every site LENT to or HELD for lost neighbours becomes FREE, in ascending site index (R94). -/
def freeLost (announce : Bool) (lost : BorrowerDir → Bool) (s : State) : State :=
  allSites.foldl (freeIfLost announce lost) s

/-- The sites LENT to a borrower with their served cells, in ascending site index (R95). -/
def State.loansTo (s : State) (b : BorrowerDir) : List LoanPair :=
  allSites.filterMap fun site =>
    match (s.site site).state with
    | .lent d c => if d = b then some ⟨site, c⟩ else none
    | _ => none

/-- A hold that reached its time: the HELD site becomes FREE and is offered (R90). -/
def endHold (site : Site) (s : State) : State :=
  match (s.site site).state with
  | .held .. => freeSite true site s
  | _ => s

/-- A site record with its fault run and last verdict cleared (R97). -/
def SiteRecord.evidenceCleared (r : SiteRecord) : SiteRecord := { r with faultRun := 0, lastVerdict := .never }

/-! ## The commands -/

/-- SITE_VERDICT (R82): the Spare Allocator takes the oldest site verdict handed to it. -/
def execSiteVerdict (s : State) : Host.Outcome State Fault Refusal :=
  match s.handed.siteVerdicts with
  | [] => .next s
  | v :: rest => .next (takeSiteVerdict v { s with handed := { s.handed with siteVerdicts := rest } })

/-- HOLD_EXPIRY (R90). -/
def execHoldExpiry (site : Site) (s : State) : Host.Outcome State Fault Refusal := .next (endHold site s)

end Sys2Proof.Machine
end

