-- ==== Sys2Proof/Machine/Conditions.lean ====
section
/-! DEFINITION. The Condition Tracker: the record and transitions of each cell's verdicts (section 3.3), the answers to admissions (section 3.4), MARK and RESTORE on cells (section 3.5), and the clearing of evidence (R58). -/

namespace Sys2Proof.Machine

/-- A WEAK verdict beyond compensation, any gain above G_max, is taken as FAULT (R47). -/
def Judgement.compensated (gMax : Nat) : Judgement → Judgement
  | .weak gains => if gains.r ≤ gMax ∧ gains.g ≤ gMax ∧ gains.b ≤ gMax then .weak gains else .fault
  | j => j

/-- The last verdict a judgement leaves behind (R43). -/
def Judgement.toLast : Judgement → LastVerdict
  | .healthy => .healthy
  | .weak _ => .weak
  | .fault => .fault
  | .none => .none

/-- A record with its three runs. -/
def CellRecord.withRuns (r : CellRecord) (fault weak healthy : Nat) : CellRecord :=
  { r with faultRun := fault, weakRun := weak, healthyRun := healthy }

/-- A record in another condition with all runs 0. -/
def CellRecord.becomes (r : CellRecord) (c : Condition) : CellRecord :=
  { r.withRuns 0 0 0 with condition := c }

/-- What every verdict leaves in the record: the verdict, the responses and the sweep (R43). -/
def CellRecord.recorded (r : CellRecord) (j : Judgement) (v : CellVerdict) : CellRecord :=
  { r with lastVerdict := j.toLast, responses := v.responses, sweep := v.sweep }

/-- A record with its evidence cleared; SUSPECT becomes GOOD (R58). -/
def CellRecord.evidenceCleared (r : CellRecord) : CellRecord where
  condition := if r.condition = .suspect then .good else r.condition
  lastVerdict := .never
  faultRun := 0
  weakRun := 0
  healthyRun := 0
  responses := Rgb.all 0
  sweep := 0

/-- A cell's record changed. -/
def State.changeCell (s : State) (c : Cell) (f : CellRecord → CellRecord) : State := s.setCell c (f (s.cell c))

/-- What an admission as RETIRED makes of the records: the cell RETIRED with all runs 0, an evicted cell GOOD with all runs 0 (R52, R54). -/
def applyRetired (c : Cell) (a : Admission) (s : State) : State :=
  match a with
  | .admitted => s.changeCell c fun r => r.becomes .retired
  | .admittedByEviction evicted =>
    (s.changeCell c fun r => r.becomes .retired).changeCell evicted fun r => r.becomes .good
  | .refused => s

/-- A detected fault asks for the cell to be RETIRED; a refusal holds it SUSPECT with fault_run at K and sets TABLE_FULL (R52). -/
def retireDetected (c : Cell) (sweep : Nat) (s : State) : State :=
  match enterRetired c .detected sweep s with
  | (.refused, t) =>
    (t.changeCell c fun r => { r.withRuns t.cfg.k 0 0 with condition := .suspect }).raise .tableFull
  | (a, t) => applyRetired c a t

/-- A weak run at its depth asks for the cell to be DIM; a refusal holds weak_run at K_dim and sets TABLE_FULL (R53). -/
def dimDetected (c : Cell) (gains : Rgb Nat) (s : State) : State :=
  match enterDim c gains s with
  | (.refused, t) =>
    (t.changeCell c fun r => { r.withRuns 0 t.cfg.kDim 0 with condition := .good }).raise .tableFull
  | (_, t) => t.changeCell c fun r => r.becomes .dim

/-- A verdict for a GOOD cell (R48). -/
def judgeGood (v : CellVerdict) (j : Judgement) (s : State) : State :=
  let r := s.cell v.cell
  match j with
  | .fault =>
    let t := s.setCell v.cell { r with faultRun := 1, weakRun := 0, condition := .suspect }
    if s.cfg.k = 1 then retireDetected v.cell v.sweep t else t
  | .weak gains =>
    let t := s.setCell v.cell { r with weakRun := min s.cfg.kDim (r.weakRun + 1) }
    if s.cfg.kDim ≤ r.weakRun + 1 then dimDetected v.cell gains t else t
  | .healthy => s.setCell v.cell (r.withRuns 0 0 0)
  | .none => s

/-- A verdict for a SUSPECT cell (R49). -/
def judgeSuspect (v : CellVerdict) (j : Judgement) (s : State) : State :=
  let r := s.cell v.cell
  match j with
  | .fault =>
    let t := s.setCell v.cell { r with faultRun := min s.cfg.k (r.faultRun + 1) }
    if s.cfg.k ≤ r.faultRun + 1 then retireDetected v.cell v.sweep t else t
  | .weak gains =>
    let t := s.setCell v.cell { r with condition := .good, faultRun := 0, weakRun := 1 }
    if s.cfg.kDim = 1 then dimDetected v.cell gains t else t
  | .healthy => s.setCell v.cell (r.becomes .good)
  | .none => s

/-- A verdict for a DIM cell (R50). -/
def judgeDim (v : CellVerdict) (j : Judgement) (s : State) : State :=
  let r := s.cell v.cell
  match j with
  | .fault =>
    if s.cfg.k ≤ r.faultRun + 1 then
      (convertEntry v.cell .detected v.sweep s).changeCell v.cell fun r => r.becomes .retired
    else s.setCell v.cell { r with faultRun := r.faultRun + 1, healthyRun := 0 }
  | .weak gains =>
    (replaceGains v.cell gains s).changeCell v.cell fun r => { r with faultRun := 0, healthyRun := 0 }
  | .healthy =>
    if s.cfg.kDim ≤ r.healthyRun + 1 then
      (removeEntry v.cell s).changeCell v.cell fun r => r.becomes .good
    else s.setCell v.cell { r with healthyRun := r.healthyRun + 1, faultRun := 0 }
  | .none => s

/-- A cell verdict taken: recorded, then judged by the condition the cell holds; a RETIRED cell's is only recorded (R43, R46, R47, R51). -/
def takeCellVerdict (v : CellVerdict) (s : State) : State :=
  let j := v.judgement.compensated s.cfg.gMax
  let t := s.changeCell v.cell fun r => r.recorded j v
  match (s.cell v.cell).condition with
  | .good => judgeGood v j t
  | .suspect => judgeSuspect v j t
  | .dim => judgeDim v j t
  | .retired => t

/-- The codes of an ACK (R186). -/
inductive AckCode
  | done | repeated | badRequest | badCell | badSite | noRoom | already | notMarked
  deriving DecidableEq, Repr

/-- MARK on a cell, with its answer (R56). -/
def markCellRetired (c : Cell) (s : State) : AckCode × State :=
  match (s.cell c).condition with
  | .retired => (.already, s)
  | .dim =>
    (.done, (convertEntry c .marked s.probe.sweepCount s).changeCell c fun r => r.becomes .retired)
  | _ =>
    match enterRetired c .marked s.probe.sweepCount s with
    | (.refused, _) => (.noRoom, s)
    | (a, t) => (.done, applyRetired c a t)

/-- RESTORE on a cell, with its answer (R57). -/
def restoreCell (c : Cell) (s : State) : AckCode × State :=
  match (s.cell c).condition with
  | .good => (.notMarked, s)
  | .suspect => (.notMarked, s)
  | _ => (.done, (removeEntry c s).changeCell c fun r => r.becomes .good)

/-- The evidence of every cell cleared (R58). -/
def clearCellEvidence (s : State) : State := { s with cells := s.cells.map CellRecord.evidenceCleared }

/-- The evidence of every site cleared (R97). -/
def clearSiteEvidence (s : State) : State := { s with sites := s.sites.map SiteRecord.evidenceCleared }

/-- CELL_VERDICT (R46): the Condition Tracker takes the oldest cell verdict handed to it. -/
def execCellVerdict (s : State) : Host.Outcome State Fault Refusal :=
  match s.handed.cellVerdicts with
  | [] => .next s
  | v :: rest => .next (takeCellVerdict v { s with handed := { s.handed with cellVerdicts := rest } })

end Sys2Proof.Machine
end

