-- ==== Sys2Proof/Machine/Reports.lean ====
section
/-! DEFINITION. The reports of the Service Responder: their fields, codes and widths (section 11.3, R184 to R186). -/

namespace Sys2Proof.Machine

/-- A field of a report: its width in bits and its value (R186). -/
structure ReportField where
  width : Nat
  value : Nat
  deriving DecidableEq, Repr

/-- The bits of a report's body, its fields packed in order (R186). -/
def packFields (fields : List ReportField) : List Bool := fields.flatMap fun f => bitsOfNat f.width f.value

/-- A report: its kind code and the fields of its body (R186). -/
structure Report where
  kind : Nat
  fields : List ReportField
  deriving DecidableEq, Repr

/-- The REPORT notice's contents with a request's tag, the body closed with 0 bits (R155, R186). -/
def Report.body (r : Report) (tag : Byte) : NoticeBody :=
  .report tag (BitVec.ofNat 8 r.kind) (bytesOfBits (packFields r.fields))

/-! ## Codes (R186) -/

/-- A yes-or-no field: 1 for yes or set. -/
def flagField (b : Bool) : ReportField := ⟨1, b.toNat⟩

/-- A response in 13 bits of two's complement. -/
def responseField (v : Int) : ReportField := ⟨13, (v % 8192).toNat⟩

/-- The code of a condition. -/
def Condition.code : Condition → Nat
  | .good => 0
  | .suspect => 1
  | .dim => 2
  | .retired => 3

/-- The code of a last verdict. -/
def LastVerdict.code : LastVerdict → Nat
  | .never => 0
  | .healthy => 1
  | .weak => 2
  | .fault => 3
  | .none => 4

/-- The code of a remedy kind. -/
def Remedy.kindCode : Remedy → Nat
  | .ownSpare _ => 0
  | .loan .. => 1
  | .asking .. => 2
  | .fill _ => 3

/-- The twelve FILL reasons in the order of R75's table. -/
def fillReasons : List FillReason :=
  [.quadBusy, .siteFaulty, .siteAbsent, .noNeighbour, .lendingOff, .ownerSilent,
   .noAnswer, .refusedInUse, .refusedFaulty, .refusedNoSite, .refusedWrongSite, .revoked]

/-- The code of a FILL reason: its place in R75's table. -/
def FillReason.code (r : FillReason) : Nat := fillReasons.idxOf r

/-- The code of an owner direction. -/
def ownerCode : OwnerDir → Nat
  | .e => 0
  | .s => 1
  | .se => 2

/-- The code of a borrower or holder direction. -/
def borrowerCode : BorrowerDir → Nat
  | .w => 0
  | .n => 1
  | .nw => 2

/-- The code of an origin. -/
def Origin.code : Origin → Nat
  | .detected => 0
  | .stored => 1
  | .marked => 2

/-- The code of a site state. -/
def SiteState.code : SiteState → Nat
  | .absent => 0
  | .free => 1
  | .held .. => 2
  | .own _ => 3
  | .lent .. => 4
  | .faulty => 5

/-- The code of a neighbour table entry's presence. -/
def presenceCode : Option Neighbour → Nat
  | none => 0
  | some nb =>
    match nb.presence with
    | .unheard => 1
    | .present => 2
    | .silent => 3

/-- The code of an intake state. -/
def IntakeState.code : IntakeState → Nat
  | .receiving => 0
  | .lost => 1
  | .dark => 2

/-- The code of a supply state. -/
def SupplyState.code : SupplyState → Nat
  | .low => 0
  | .good => 1

/-- The code of an ACK. -/
def AckCode.code : AckCode → Nat
  | .done => 0
  | .repeated => 1
  | .badRequest => 2
  | .badCell => 3
  | .badSite => 4
  | .noRoom => 5
  | .already => 6
  | .notMarked => 7

/-! ## Bodies -/

/-- A cell field: its index in 10 bits. -/
def cellField (c : Cell) : ReportField := ⟨10, c.index.val⟩

/-- A site field: its index in 8 bits. -/
def siteField (s : Site) : ReportField := ⟨8, s.index.val⟩

/-- The parts of a remedy, the attempt carried as the attempt less one (R186, R155). -/
def remedyFields : Remedy → List ReportField
  | .ownSpare site => [siteField site]
  | .loan owner site => [⟨2, ownerCode owner⟩, siteField site]
  | .asking owner site attempt timer => [⟨2, ownerCode owner⟩, siteField site, ⟨4, attempt - 1⟩, ⟨5, timer⟩]
  | .fill reason => [⟨4, reason.code⟩]

/-- A remedy's kind and parts; an entry has none only in LOADING, when nothing is reported (R78). -/
def remedyReport : Option Remedy → List ReportField
  | some r => ⟨2, r.kindCode⟩ :: remedyFields r
  | none => []

/-- The entry fields (R186). -/
def entryFields (e : Entry) : List ReportField :=
  match e.body with
  | .dim gains => [⟨1, 0⟩, ⟨15, gains.r⟩, ⟨15, gains.g⟩, ⟨15, gains.b⟩]
  | .retired remedy at_ persisted =>
    ⟨1, 1⟩ :: remedyReport remedy ++ [⟨2, e.origin.code⟩, ⟨24, at_⟩, flagField persisted]

/-- The record fields (R186). -/
def recordFields (r : CellRecord) : List ReportField :=
  [⟨2, r.condition.code⟩, ⟨3, r.lastVerdict.code⟩, ⟨3, r.faultRun⟩, ⟨3, r.weakRun⟩, ⟨3, r.healthyRun⟩,
   responseField r.responses.r, responseField r.responses.g, responseField r.responses.b, ⟨24, r.sweep⟩]

/-- The position of a cell's entry (R62). -/
def State.entryPosition (s : State) (c : Cell) : Nat := s.entries.findIdx fun e => e.cell == c

/-- An ACK report. -/
def ackReport (code : AckCode) : Report := ⟨0, [⟨8, code.code⟩]⟩

/-- A CELL report (R184, R186). -/
def cellReport (c : Cell) (s : State) : Report :=
  ⟨1, cellField c :: recordFields (s.cell c) ++
    match s.entryOf c with
    | some e => ⟨1, 1⟩ :: ⟨7, s.entryPosition c⟩ :: entryFields e
    | none => [⟨1, 0⟩]⟩

/-- The served cell or the holder of a site with the ticks that remain of the hold (R184, R186). -/
def siteStateFields : SiteState → List ReportField
  | .own c => [cellField c]
  | .lent d c => [⟨2, borrowerCode d⟩, cellField c]
  | .held d c timer => [⟨2, borrowerCode d⟩, cellField c, ⟨9, Config.holdTicks - timer⟩]
  | _ => []

/-- A SITE report (R184, R186). -/
def siteReport (site : Site) (s : State) : Report :=
  let r := s.site site
  ⟨2, [siteField site, ⟨3, r.state.code⟩, flagField r.proven, ⟨3, r.faultRun⟩, ⟨3, r.lastVerdict.code⟩] ++
    siteStateFields r.state⟩

/-- An ENTRY report for position `n`, or NONE beyond the last entry (R77, R186). -/
def entryReport (n : Byte) (s : State) : Report :=
  ⟨3, ⟨8, n.toNat⟩ ::
    match s.entries[n.toNat]? with
    | some e => ⟨1, 1⟩ :: cellField e.cell :: entryFields e
    | none => [⟨1, 0⟩]⟩

/-- How many cells hold a condition (R61). -/
def State.cellsIn (s : State) (c : Condition) : Nat := s.cells.data.countP fun r => decide (r.condition = c)

/-- How many sites are in a state of a code (R98). -/
def State.sitesIn (s : State) (code : Nat) : Nat := s.sites.data.countP fun r => r.state.code == code

/-- How many RETIRED entries have a remedy that a test picks (R77). -/
def State.remediesWith (s : State) (test : Remedy → Bool) : Nat := s.entries.countP fun e => e.remedy.any test

/-- The SUMMARY_TABLES report (R185, R186). -/
def summaryTables (s : State) : Report :=
  ⟨4, [Condition.good, .suspect, .dim, .retired].map (fun c => ⟨11, s.cellsIn c⟩) ++
    [⟨8, s.entries.countP fun e => !e.isRetired⟩, ⟨8, s.entries.countP Entry.isRetired⟩] ++
    [0, 1, 2, 3].map (fun k => ⟨8, s.remediesWith fun r => r.kindCode == k⟩) ++
    fillReasons.map (fun why => ⟨8, s.remediesWith (Remedy.isFillWith [why])⟩) ++
    [0, 1, 2, 3, 4, 5].map fun code => ⟨9, s.sitesIn code⟩⟩

/-- The presence and quiet time of a direction (R152, R186). -/
def presenceFields (s : State) (d : Dir) : List ReportField :=
  [⟨2, presenceCode (s.neighbour d)⟩, ⟨16, ((s.neighbour d).bind Neighbour.quiet).getD 0⟩]

/-- The SUMMARY_STATE report (R185, R186). -/
def summaryState (s : State) : Report :=
  ⟨5, Dir.all.flatMap (presenceFields s) ++
    [⟨7, s.seam.foreignFills.length⟩, ⟨24, s.probe.sweepCount⟩, ⟨5, s.probe.p.val⟩, ⟨4, s.probe.q.val⟩] ++
    s.flags.toList.map flagField ++
    [flagField s.configDefault, flagField s.calDefault, flagField s.storeMissing,
     flagField s.positionInvalid, flagField s.anyRowLeak,
     ⟨2, s.intake.state.code⟩, ⟨1, s.supply.state.code⟩]⟩

end Sys2Proof.Machine
end

