-- ==== Sys2Proof/Machine/Claims.lean ====
section
/-! DEFINITION. The Seam Agent's claimant side: retries (R117), answers (R118 to R123), re-claims (R127, R128), and LOAN_LISTs (R132). -/

namespace Sys2Proof.Machine

/-- The remedy of the entry that a GRANT, WAIT, REFUSE or REVOKE from direction `d` matches: ASKING or LOAN with that owner direction and site (R118). -/
def State.matchedRemedy (s : State) (d : Dir) (site : Site) (c : Cell) : Option Remedy :=
  match s.remedyOf c with
  | some (.asking owner site' attempt timer) =>
    if owner.toDir = d ∧ site' = site then some (.asking owner site' attempt timer) else none
  | some (.loan owner site') => if owner.toDir = d ∧ site' = site then some (.loan owner site') else none
  | _ => none

/-- The attempt and retry timer of a cell's ASKING remedy written; the cell stays ASKING (R115). -/
def setClaim (c : Cell) (owner : OwnerDir) (site : Site) (attempt timer : Nat) (s : State) : State :=
  s.setEntries (changeEntry c (fun e => e.withRemedy (.asking owner site attempt timer)) s.entries)

/-- A GRANT: an ASKING entry it matches becomes LOAN, a LOAN it matches stands, and one that matches nothing is answered with a RELEASE (R119, R120). -/
def takeGrant (d : Dir) (site : Site) (c : Cell) (s : State) : State :=
  match s.matchedRemedy d site c with
  | some (.asking owner site' _ _) => giveRemedy true c (.loan owner site') s
  | some _ => s
  | none => sendRelease d site c s

/-- A WAIT that matches an ASKING entry restarts its retry timer and keeps the attempt; any other is dropped (R121). -/
def takeWait (d : Dir) (site : Site) (c : Cell) (s : State) : State :=
  match s.matchedRemedy d site c with
  | some (.asking owner site' attempt _) => setClaim c owner site' attempt 0 s
  | _ => s

/-- The FILL reason a refusal code gives, none for a code that is not one of the five (R75, R122). -/
def refusalReason (code : Fin 16) : Option FillReason :=
  match code.val with
  | 1 => some .refusedInUse
  | 2 => some .refusedFaulty
  | 3 => some .refusedNoSite
  | 4 => some .refusedWrongSite
  | 5 => some .lendingOff
  | _ => none

/-- A REFUSE that matches an ASKING entry ends the claim with the reason's FILL; any other, or one with an unknown code, is dropped (R122). -/
def takeRefuse (d : Dir) (site : Site) (c : Cell) (code : Fin 16) (s : State) : State :=
  match s.matchedRemedy d site c, refusalReason code with
  | some (.asking ..), some reason => giveRemedy true c (.fill reason) s
  | _, _ => s

/-- A REVOKE that matches a LOAN or ASKING entry makes the remedy FILL(REVOKED); any other is ignored (R123). -/
def takeRevoke (d : Dir) (site : Site) (c : Cell) (s : State) : State :=
  match s.matchedRemedy d site c with
  | some _ => giveRemedy true c (.fill .revoked) s
  | none => s

/-- The retry timer of an ASKING entry reached 25 ticks: the next attempt is sent, or after attempt 16 the remedy becomes FILL(NO_ANSWER) (R117). -/
def retryClaim (c : Cell) (s : State) : State :=
  match s.remedyOf c with
  | some (.asking owner site attempt _) =>
    if attempt < Config.lastAttempt then
      sendClaim c owner site (attempt + 1) (setClaim c owner site (attempt + 1) 0 s)
    else giveRemedy true c (.fill .noAnswer) s
  | _ => s

/-- The re-claims of a sweep end: every entry in FILL(NO_ANSWER) or FILL(REFUSED_IN_USE) (R128). -/
def takeSweepEnd (s : State) : State :=
  rechooseAll true (fun _ r => r.isFillWith [.noAnswer, .refusedInUse]) s

/-- The first step of a LOAN_LIST for one entry: a LOAN from the sender that the list omits becomes FILL(REVOKED) and is at once re-claimed (R132). -/
def checkLoan (owner : OwnerDir) (pairs : List LoanPair) (s : State) (c : Cell) : State :=
  match s.remedyOf c with
  | some (.loan owner' site) =>
    if owner' = owner ∧ ¬ (⟨site, c⟩ : LoanPair) ∈ pairs then
      chooseRemedy true c (giveRemedy true c (.fill .revoked) s)
    else s
  | _ => s

/-- The second step of a LOAN_LIST for one pair: a pair not held as a LOAN from the sender draws a RELEASE (R132). -/
def answerPair (owner : OwnerDir) (s : State) (pair : LoanPair) : State :=
  if s.remedyOf pair.cell = some (.loan owner pair.site) then s
  else sendRelease owner.toDir pair.site pair.cell s

/-- A LOAN_LIST from an owner, taken in its two steps; from any other direction it is discarded (R132). -/
def takeLoanList (d : Dir) (pairs : List LoanPair) (s : State) : State :=
  match d.owner with
  | none => s
  | some owner =>
    pairs.foldl (answerPair owner) ((s.entries.map Entry.cell).foldl (checkLoan owner pairs) s)

/-- Whether a remedy is LOAN or ASKING with a lost owner (R133). -/
def Remedy.dependsOn (lost : OwnerDir → Bool) : Remedy → Bool
  | .loan owner _ => lost owner
  | .asking owner _ _ _ => lost owner
  | _ => false

/-- One entry whose owner is lost becomes FILL(OWNER_SILENT) (R133). -/
def dropIfLost (announce : Bool) (lost : OwnerDir → Bool) (s : State) (c : Cell) : State :=
  if (s.remedyOf c).any (Remedy.dependsOn lost) then giveRemedy announce c (.fill .ownerSilent) s else s

/-- Every LOAN and ASKING entry of lost owners becomes FILL(OWNER_SILENT), in ascending entry position; no RELEASE is sent (R133). -/
def dropLost (announce : Bool) (lost : OwnerDir → Bool) (s : State) : State :=
  (s.entries.map Entry.cell).foldl (dropIfLost announce lost) s

/-- The loans from an owner, in ascending entry position, as a HOLD_LIST lists them (R131). -/
def State.loansFrom (s : State) (owner : OwnerDir) : List LoanPair :=
  s.entries.filterMap fun e =>
    match e.remedy with
    | some (.loan owner' site) => if owner' = owner then some ⟨site, e.cell⟩ else none
    | _ => none

/-! ## The commands -/

/-- CLAIM_RETRY_EXPIRY (R117). -/
def execClaimRetryExpiry (c : Cell) (s : State) : Host.Outcome State Fault Refusal := .next (retryClaim c s)

/-- SWEEP_END (R128): the Seam Agent takes a sweep end sent to it. -/
def execSweepEnd (s : State) : Host.Outcome State Fault Refusal :=
  .next (if s.handed.sweepEnds = 0 then s
    else takeSweepEnd { s with handed := { s.handed with sweepEnds := s.handed.sweepEnds - 1 } })

end Sys2Proof.Machine
end

