-- ==== Sys2Proof/Machine/Neighbours.lean ====
section
/-! DEFINITION. The Seam Agent's view of its neighbours: directions of sources (R10), presence (R139 to R142), the refresh (R143), foreign fill records (R148), and the filter every received notice passes (R163, R164). -/

namespace Sys2Proof.Machine

/-- The direction of a notice's source: the non-NONE entry whose position it is (R10). -/
def State.directionOf (s : State) (src : Pos) : Option Dir :=
  Dir.all.find? fun d => (s.neighbour d).any fun nb => decide (nb.position = src)

/-- The HOLD_LIST for an owner, built and handed on (R131). -/
def sendHoldList (owner : OwnerDir) (s : State) : State := sendTo owner.toDir (.holdList (s.loansFrom owner)) s

/-- The LOAN_LIST for a borrower, built and handed on (R95). -/
def sendLoanList (b : BorrowerDir) (s : State) : State := sendTo b.toDir (.loanList (s.loansTo b)) s

/-- The lists for one direction in the order of R143's table: the FILL_LIST of the shared edge, then the HOLD_LIST or the LOAN_LIST. -/
def sendLists (d : Dir) (s : State) : State :=
  match d with
  | .n => sendLoanList .n (sendFillList .n s)
  | .e => sendHoldList .e (sendFillList .e s)
  | .s => sendHoldList .s (sendFillList .s s)
  | .w => sendLoanList .w (sendFillList .w s)
  | .nw => sendLoanList .nw s
  | .se => sendHoldList .se s

/-- What a neighbour's becoming PRESENT calls for: its lists, then the re-claims of FILL(OWNER_SILENT) entries it owns (R142, R129). -/
def neighbourReturned (d : Dir) (s : State) : State :=
  rechooseAll true (fun c r => r.isFillWith [.ownerSilent] && c.ownedBy d) (sendLists d s)

/-- The presence update for a neighbour that was heard (R139). -/
def hearNeighbour (d : Dir) (s : State) : State :=
  match s.neighbour d with
  | none => s
  | some nb =>
    let t := s.setNeighbour d (some { nb with presence := .present, quiet := some 0 })
    if nb.presence = .present then t else neighbourReturned d t

/-- The presence update for a source; one with no direction changes no entry (R139). -/
def updatePresence (src : Pos) (s : State) : State :=
  match s.directionOf src with
  | none => s
  | some d => hearNeighbour d s

/-- Whether a notice is addressed to this tile: its own position or ALL (R164). -/
def State.addressed (s : State) (dst : Pos) : Bool := decide (dst = s.position ∨ dst = Pos.everyone)

/-- Whether a notice bears this tile's own position as its source, from a tile (R163). -/
def State.clashes (s : State) (src : Pos) : Bool := !src.isStation && decide (src = s.position)

/-- A well-formed notice read by a port: an OFF port lets it pass unread (R153); one that bears the tile's own position sets POSITION_CLASH (R163); otherwise the presence is updated, and the notice is acted on when it is addressed to the tile (R164). -/
def receive (rx : Rx) (act : State → State) (s : State) : State :=
  if (s.port rx.port).state = .off then s
  else if s.clashes rx.src then s.raise .positionClash
  else
    let heard := updatePresence rx.src s
    if heard.addressed rx.dst then act heard else heard

/-- A notice of the kinds the Seam Agent takes only from a source with a direction (R10, R164). -/
def receiveFromNeighbour (rx : Rx) (act : Dir → State → State) (s : State) : State :=
  receive rx (fun t =>
    match t.directionOf rx.src with
    | none => t
    | some d => act d t) s

/-- The positions of a list, a position already taken passed over (R148). -/
def firstUses (positions : List (Fin 32)) : List (Fin 32) :=
  positions.foldl (fun taken p => if p ∈ taken then taken else taken ++ [p]) []

/-- A FILL_LIST across one of this tile's edges: the sender's records are replaced, as far as the list has room (R148). -/
def replaceFills (edge : Edge) (positions : List (Fin 32)) (s : State) : State :=
  let kept := s.seam.foreignFills.filter fun r => !decide (r.edge = edge)
  let wanted := firstUses positions
  let room := Config.foreignFillPlaces - kept.length
  let t := { s with seam := { s.seam with
    foreignFills := kept ++ (wanted.take room).map fun p => ⟨edge, p⟩ } }
  if room < wanted.length then t.raise .fillListFull else t

/-- A FILL_LIST taken from a direction: only across the edge that faces this tile (R13, R148). -/
def takeFillList (d : Dir) (edge : Edge) (positions : List (Fin 32)) (s : State) : State :=
  match d.edge with
  | none => s
  | some own => if edge = own.facing then replaceFills own positions s else s

/-- The fill records of the neighbour in a direction removed, the gaps closed (R141). -/
def dropFills (d : Dir) (s : State) : State :=
  { s with seam := { s.seam with
      foreignFills := s.seam.foreignFills.filter fun r => !decide (r.edge.toDir = d) } }

/-- What a neighbour's going SILENT withdraws: its fill records, the loans and holds made to it, the loans and claims made of it (R141). -/
def withdrawFrom (d : Dir) (s : State) : State :=
  dropLost true (fun owner => decide (owner.toDir = d))
    (freeLost true (fun b => decide (b.toDir = d)) (dropFills d s))

/-- The quiet time of a PRESENT entry reached the silence limit: it becomes SILENT, its quiet time runs on, and all that depended on it is withdrawn (R140). -/
def silenceNeighbour (d : Dir) (s : State) : State :=
  match s.neighbour d with
  | none => s
  | some nb =>
    if nb.presence = .present then
      withdrawFrom d (s.setNeighbour d
        (some { nb with presence := .silent, quiet := some s.cfg.silenceTicks }))
    else s

/-- A refresh: every list for every positioned direction, N, E, S, W, NW, SE, and the refresh timer restarted (R143). -/
def refresh (s : State) : State :=
  let t := Dir.all.foldl (fun s d => sendLists d s) s
  { t with seam := { t.seam with refreshTimer := some 0 } }

/-! ## The commands -/

/-- NEIGHBOUR_SILENT (R140, R141). -/
def execNeighbourSilent (d : Dir) (s : State) : Host.Outcome State Fault Refusal := .next (silenceNeighbour d s)

/-- REFRESH_TIMER_EXPIRY (R143); the timer runs in RUN only. -/
def execRefreshTimerExpiry (s : State) : Host.Outcome State Fault Refusal :=
  .next (if s.seam.refreshTimer = none then s else refresh s)

/-- CLAIM_RECEIVED (R88, R164). -/
def execClaimReceived (rx : Rx) (c : Cell) (site : Site) (_attemptLessOne : Fin 16) (s : State) :
    Host.Outcome State Fault Refusal :=
  .next (receiveFromNeighbour rx (fun d => takeClaim d c site) s)

/-- GRANT_RECEIVED (R119, R120). -/
def execGrantReceived (rx : Rx) (site : Site) (c : Cell) (s : State) : Host.Outcome State Fault Refusal :=
  .next (receiveFromNeighbour rx (fun d => takeGrant d site c) s)

/-- WAIT_RECEIVED (R121). -/
def execWaitReceived (rx : Rx) (site : Site) (c : Cell) (s : State) : Host.Outcome State Fault Refusal :=
  .next (receiveFromNeighbour rx (fun d => takeWait d site c) s)

/-- REFUSE_RECEIVED (R122). -/
def execRefuseReceived (rx : Rx) (site : Site) (c : Cell) (reason : Fin 16) (s : State) :
    Host.Outcome State Fault Refusal :=
  .next (receiveFromNeighbour rx (fun d => takeRefuse d site c reason) s)

/-- REVOKE_RECEIVED (R123). -/
def execRevokeReceived (rx : Rx) (site : Site) (c : Cell) (s : State) : Host.Outcome State Fault Refusal :=
  .next (receiveFromNeighbour rx (fun d => takeRevoke d site c) s)

/-- RELEASE_RECEIVED (R92). -/
def execReleaseReceived (rx : Rx) (site : Site) (c : Cell) (s : State) : Host.Outcome State Fault Refusal :=
  .next (receiveFromNeighbour rx (fun d => takeRelease d site c) s)

/-- HOLD_LIST_RECEIVED (R93); a count beyond 16 is not well formed (R155, R163). -/
def execHoldListReceived (rx : Rx) (pairs : List LoanPair) (s : State) : Host.Outcome State Fault Refusal :=
  .next (if countInRange (.holdList pairs) then receiveFromNeighbour rx (fun d => takeHoldList d pairs) s else s)

/-- LOAN_LIST_RECEIVED (R132); a count beyond 16 is not well formed (R155, R163). -/
def execLoanListReceived (rx : Rx) (pairs : List LoanPair) (s : State) : Host.Outcome State Fault Refusal :=
  .next (if countInRange (.loanList pairs) then receiveFromNeighbour rx (fun d => takeLoanList d pairs) s else s)

/-- FILL_LIST_RECEIVED (R148); a count beyond 32 is not well formed (R155, R163). -/
def execFillListReceived (rx : Rx) (edge : Edge) (positions : List (Fin 32)) (s : State) :
    Host.Outcome State Fault Refusal :=
  .next (if countInRange (.fillList edge positions) then
    receiveFromNeighbour rx (fun d => takeFillList d edge positions) s else s)

/-- REPORT_RECEIVED: discarded after the presence update (R164). -/
def execReportReceived (rx : Rx) (tag : Byte) (kind : Byte) (body : List Byte) (s : State) :
    Host.Outcome State Fault Refusal :=
  .next (if countInRange (.report tag kind body) then receive rx id s else s)

end Sys2Proof.Machine
end

