-- ==== Sys2Proof/Machine/Restart.lean ====
section
/-! DEFINITION. What service stations start: section restart (R150, R165, R181) and RESCAN's effect (R39, R58, R79, R97). -/

namespace Sys2Proof.Machine

/-- Whether a remedy is FILL, for a choice made anew (R79). -/
def callsForChoice (_ : Cell) (r : Remedy) : Bool := r.isFill

/-- Steps 1 to 3 of R150: the queues emptied, the positioned neighbours UNHEARD, the foreign fill list emptied. -/
def restartSeam (s : State) : State :=
  { s with
    ports := s.ports.map Port.restarted
    seam := { s.seam with
      neighbours := s.seam.neighbours.map fun nb =>
        nb.map fun n => { n with presence := .unheard, quiet := none }
      foreignFills := [] } }

/-- Step 6 of R150: the evidence of cells, sites and the pass cleared, and the settle countdown set (R181). -/
def restartEvidence (s : State) : State :=
  let t := clearSiteEvidence (clearCellEvidence s)
  { t with
    probe := t.probe.restarted
    supply := { t.supply with countdown := t.cfg.settleFrames } }

/-- The section restart of R150 in its order; its changes of the filled edge sets send no list of their own, and the refresh closes it. -/
def sectionRestart (s : State) : State :=
  refresh (rechooseAll false callsForChoice (restartEvidence
    (dropLost false (fun _ => true) (freeLost false (fun _ => true) (restartSeam s)))))

/-- RESCAN: the pass aborted with p = 0, the evidence cleared, and the choice made anew for every FILL entry (R183). -/
def rescanPart (s : State) : State :=
  rechooseAll true callsForChoice (clearSiteEvidence (clearCellEvidence
    { s with probe := s.probe.rescanned }))

/-- SECTION_RESTART (R165): carried out from a service station, to ALL or to the tile; ignored after its presence update from any other source. -/
def execSectionRestart (rx : Rx) (s : State) : Host.Outcome State Fault Refusal :=
  .next (receive rx (fun t => if rx.src.isStation then sectionRestart t else t) s)

end Sys2Proof.Machine
end

