-- ==== Sys2Proof/Machine/Service.lean ====
section
/-! DEFINITION. The Service Responder: taking a request (R182), the nine commands (R183), and their answers. -/

namespace Sys2Proof.Machine

/-- A service command with its arguments (R183). -/
inductive ServiceCommand
  | querySummary
  | queryCell (x y : Byte)
  | querySite (i j : Byte)
  | queryEntry (n : Byte)
  | mark (x y : Byte)
  | restore (x y : Byte)
  | rescan
  | clearFlags
  | clearRetired
  deriving DecidableEq, Repr

/-- The command that a code and argument bytes spell; none when the code names none of the nine or the arguments do not match it (R182, R186). -/
def readCommand (code : Byte) (arguments : List Byte) : Option ServiceCommand :=
  match code.toNat, arguments with
  | 0, [] => some .querySummary
  | 1, [x, y] => some (.queryCell x y)
  | 2, [i, j] => some (.querySite i j)
  | 3, [n] => some (.queryEntry n)
  | 4, [x, y] => some (.mark x y)
  | 5, [x, y] => some (.restore x y)
  | 6, [] => some .rescan
  | 7, [] => some .clearFlags
  | 8, [] => some .clearRetired
  | _, _ => none

/-- Whether a command code is one whose repeat is not carried out twice: MARK, RESTORE, RESCAN, CLEAR_FLAGS, CLEAR_RETIRED (R182). -/
def isActing (code : Byte) : Bool := decide (4 ≤ code.toNat ∧ code.toNat ≤ 8)

/-- The last tag of a port (R182). -/
def State.lastTag (s : State) (p : PortId) : Option Byte := s.lastTags.get p

/-- Whether a request repeats a command already carried out (R182). -/
def State.isRepeat (s : State) (p : PortId) (tag code : Byte) : Bool :=
  isActing code && decide (s.lastTag p = some tag)

/-- How many answer queue places the answer takes: two for the two summary reports, else one (R182). -/
def placesNeeded (command : Option ServiceCommand) : Nat :=
  match command with
  | some .querySummary => 2
  | _ => 1

/-- A REPORT handed to the answer queue of the port the request came on, addressed to the requesting station (R182, R154). -/
def answer (rx : Rx) (tag : Byte) (s : State) (r : Report) : State :=
  enqueue rx.port ⟨s.position, rx.src, r.body tag⟩ s

/-- A command on a cell: its effect and ACK, or BAD_CELL for coordinates that name none (R183). -/
def onCell (x y : Byte) (effect : Cell → State → AckCode × State) (s : State) : State × List Report :=
  match Cell.ofBytes x y with
  | none => (s, [ackReport .badCell])
  | some c => ((effect c s).2, [ackReport (effect c s).1])

/-- A command carried out: the state it leaves and its answers, built from that state (R182, R183). -/
def carryOut (command : ServiceCommand) (s : State) : State × List Report :=
  match command with
  | .querySummary => (s, [summaryTables s, summaryState s])
  | .queryCell x y =>
    match Cell.ofBytes x y with
    | none => (s, [ackReport .badCell])
    | some c => (s, [cellReport c s])
  | .querySite i j =>
    match Site.ofBytes i j with
    | none => (s, [ackReport .badSite])
    | some site => (s, [siteReport site s])
  | .queryEntry n => (s, [entryReport n s])
  | .mark x y => onCell x y markCellRetired s
  | .restore x y => onCell x y restoreCell s
  | .rescan => (rescanPart s, [ackReport .done])
  | .clearFlags => ({ s with flags := Flags.clear }, [ackReport .done])
  | .clearRetired => (clearRetiredList s, [ackReport .done])

/-- The state with a port's last tag written (R182). -/
def State.setLastTag (s : State) (p : PortId) (tag : Byte) : State :=
  { s with lastTags := s.lastTags.set p (some tag) }

/-- What a taken request does and answers: REPEATED, BAD_REQUEST, or the command carried out (R182). -/
def handleRequest (p : PortId) (tag code : Byte) (arguments : List Byte) (s : State) : State × List Report :=
  if s.isRepeat p tag code then (s.setLastTag p tag, [ackReport .repeated])
  else
    let t := s.setLastTag p tag
    match readCommand code arguments with
    | none => (t, [ackReport .badRequest])
    | some command => carryOut command t

/-- A SERVICE_REQUEST addressed to the tile (R182): dropped whole with QUEUE_FULL when its answer finds too few places free, otherwise handled and answered.
One addressed to ALL is ignored, one from a tile source discarded (R165). -/
def serviceRequest (rx : Rx) (tag code : Byte) (arguments : List Byte) (s : State) : State :=
  if rx.src.isStation ∧ rx.dst = s.position then
    if Config.answerPlaces - (s.port rx.port).answers.length < placesNeeded (readCommand code arguments) then
      s.raise .queueFull
    else
      let done := handleRequest rx.port tag code arguments s
      done.2.foldl (answer rx tag) done.1
  else s

/-- A SERVICE_REQUEST notice as a port reads it (R163 to R165); beyond 40 payload bytes it is not well formed (R155). -/
def receiveRequest (rx : Rx) (tag code : Byte) (arguments : List Byte) (s : State) : State :=
  if countInRange (.serviceRequest tag code arguments) then
    receive rx (serviceRequest rx tag code arguments) s
  else s

/-! ## The commands -/

/-- QUERY_SUMMARY (R185). -/
def execQuerySummary (rx : Rx) (tag : Byte) (s : State) : Host.Outcome State Fault Refusal :=
  .next (receiveRequest rx tag 0 [] s)

/-- QUERY_CELL (R184). -/
def execQueryCell (rx : Rx) (tag x y : Byte) (s : State) : Host.Outcome State Fault Refusal :=
  .next (receiveRequest rx tag 1 [x, y] s)

/-- QUERY_SITE (R184). -/
def execQuerySite (rx : Rx) (tag i j : Byte) (s : State) : Host.Outcome State Fault Refusal :=
  .next (receiveRequest rx tag 2 [i, j] s)

/-- QUERY_ENTRY (R77). -/
def execQueryEntry (rx : Rx) (tag n : Byte) (s : State) : Host.Outcome State Fault Refusal :=
  .next (receiveRequest rx tag 3 [n] s)

/-- MARK (R56). -/
def execMark (rx : Rx) (tag x y : Byte) (s : State) : Host.Outcome State Fault Refusal :=
  .next (receiveRequest rx tag 4 [x, y] s)

/-- RESTORE (R57). -/
def execRestore (rx : Rx) (tag x y : Byte) (s : State) : Host.Outcome State Fault Refusal :=
  .next (receiveRequest rx tag 5 [x, y] s)

/-- RESCAN (R39, R58, R79, R97). -/
def execRescan (rx : Rx) (tag : Byte) (s : State) : Host.Outcome State Fault Refusal :=
  .next (receiveRequest rx tag 6 [] s)

/-- CLEAR_FLAGS (R187). -/
def execClearFlags (rx : Rx) (tag : Byte) (s : State) : Host.Outcome State Fault Refusal :=
  .next (receiveRequest rx tag 7 [] s)

/-- CLEAR_RETIRED (R180). -/
def execClearRetired (rx : Rx) (tag : Byte) (s : State) : Host.Outcome State Fault Refusal :=
  .next (receiveRequest rx tag 8 [] s)

/-- SERVICE_REQUEST_UNKNOWN (R182): the command and arguments are read as of any request (log entry 16). -/
def execServiceRequestUnknown (rx : Rx) (tag command : Byte) (arguments : List Byte) (s : State) :
    Host.Outcome State Fault Refusal :=
  .next (receiveRequest rx tag command arguments s)

/-! ## Bits read from a line -/

/-- A well-formed notice read by a port, handled by its kind (R164). -/
def receiveNotice (p : PortId) (n : Notice) (s : State) : State :=
  let rx : Rx := ⟨p, n.src, n.dst⟩
  match n.body with
  | .sectionRestart => receive rx (fun t => if rx.src.isStation then sectionRestart t else t) s
  | .grant site c => receiveFromNeighbour rx (fun d => takeGrant d site c) s
  | .refuse site c reason => receiveFromNeighbour rx (fun d => takeRefuse d site c reason) s
  | .wait site c => receiveFromNeighbour rx (fun d => takeWait d site c) s
  | .revoke site c => receiveFromNeighbour rx (fun d => takeRevoke d site c) s
  | .release site c => receiveFromNeighbour rx (fun d => takeRelease d site c) s
  | .claim c site _ => receiveFromNeighbour rx (fun d => takeClaim d c site) s
  | .holdList pairs => receiveFromNeighbour rx (fun d => takeHoldList d pairs) s
  | .loanList pairs => receiveFromNeighbour rx (fun d => takeLoanList d pairs) s
  | .fillList edge positions => receiveFromNeighbour rx (fun d => takeFillList d edge positions) s
  | .serviceRequest tag code arguments => receive rx (serviceRequest rx tag code arguments) s
  | .report .. => receive rx id s

/-- NOTICE_MALFORMED (R163): bits that are not a well-formed notice are discarded without effect.
The test of R155 is made here; bits that do pass it are handled as the notice they spell (log entry 16). -/
def execNoticeMalformed (p : PortId) (bits : List Bool) (s : State) : Host.Outcome State Fault Refusal :=
  .next (match readNotice bits with
    | none => s
    | some n => receiveNotice p n s)

end Sys2Proof.Machine
end

