-- ==== Sys2Proof/Machine/Start.lean ====
section
/-! DEFINITION. Power, the reset line and the start load (sections 10.1 to 10.4), and entry to RUN (section 10.5). -/

namespace Sys2Proof.Machine

/-! ## Power and the reset line -/

/-- The part started: LOADING with every block at its cleared values, the straps read (R167, R168). Pins and the command queue are outside the part. -/
def startPart (straps : Pos) (s : State) : State := State.starting straps s.supply.input s.pending

/-- The reset line asserted: everything in progress is abandoned, the port emits nothing, nothing runs until the release (R102, R167; log entry 17). -/
def holdPart (s : State) : State :=
  let cleared := startPart s.position s
  { cleared with
    mode := .held
    render := { cleared.render with sending := none }
    store := { cleared.store with pollTimer := none } }

/-- POWER_ON (R167). Taken while the reset line is held, it starts LOADING all the same (log entry 27). -/
def execPowerOn (straps : Pos) (s : State) : Host.Outcome State Fault Refusal := .next (startPart straps s)

/-- RESET_ASSERT (R167). -/
def execResetAssert (s : State) : Host.Outcome State Fault Refusal := .next (holdPart s)

/-- RESET_RELEASE (R167). -/
def execResetRelease (straps : Pos) (s : State) : Host.Outcome State Fault Refusal := .next (startPart straps s)

/-! ## The store and the configuration record -/

/-- Whether the load stands at a phase (R167). -/
def State.loadsAt (s : State) (phase : LoadPhase) : Bool := decide (s.mode = .loading ∧ s.loadPhase = phase)

/-- STORE_READY_AT_LOAD (R170): the store is present and the load goes on. -/
def execStoreReadyAtLoad (s : State) : Host.Outcome State Fault Refusal :=
  .next (if s.loadsAt .pollStore then
    { s with loadPhase := .configuration, store := { s.store with pollTimer := none } } else s)

/-- The default calibration: every value 512 (R173). -/
def Calibration.default512 : Calibration := ⟨Tbl.fill 1024 (Rgb.all 512), Tbl.fill 256 (Rgb.all 512)⟩

/-- The store is missing: MISSING until the next start, the built-in configuration, the default calibration, an empty retired list (R170). -/
def storeIsMissing (s : State) : State :=
  { s with
    loadPhase := .complete
    store := { s.store with state := .missing, pollTimer := none }
    cfg := Configuration.defaults
    configDefault := true
    calibration := Calibration.default512
    calDefault := true }

/-- STORE_MISSING_TIMEOUT (R170). -/
def execStoreMissingTimeout (s : State) : Host.Outcome State Fault Refusal :=
  .next (if s.loadsAt .pollStore then storeIsMissing s else s)

/-- A value clamped to the nearer end of a range (R172). -/
def clampTo (low high v : Nat) : Nat := max low (min high v)

/-- T_dead and T_weak clamped to 1..15 each, and T_weak then forced above T_dead (R172). -/
def clampThresholds (dead weak : Nat) : Nat × Nat :=
  let dead := clampTo 1 15 dead
  let weak := clampTo 1 15 weak
  if dead < weak then (dead, weak) else if dead = 15 then (14, 15) else (dead, dead + 1)

/-- The format word of a configuration record (R169). -/
def recordFormat (bytes : Tbl 32 Byte) : Nat := be16 (bytes.get 0) (bytes.get 1)

/-- The fields of a matching configuration record, each clamped to its range (R169, R171, R172). -/
def readRecord (bytes : Tbl 32 Byte) : Configuration :=
  let byte (i : Fin 32) : Nat := (bytes.get i).toNat
  let thresholds := clampThresholds (byte 4) (byte 5)
  { faceWidth := clampTo 1 127 (byte 2)
    faceHeight := clampTo 1 63 (byte 3)
    tDead := thresholds.1
    tWeak := thresholds.2
    tHot := clampTo 17 48 (byte 6)
    lLeak := clampTo 1 4095 (be16 (bytes.get 7) (bytes.get 8))
    k := clampTo 1 7 (byte 9)
    kDim := clampTo 1 7 (byte 10)
    gMax := clampTo 4096 16384 (be16 (bytes.get 11) (bytes.get 12))
    fillShare := clampTo 0 16 (byte 13)
    probeCode := clampTo 1 65535 (be16 (bytes.get 14) (bytes.get 15))
    tRef := clampTo 2 60 (byte 16)
    settleFrames := clampTo 0 63 (byte 17)
    lending := decide (byte 18 = 1) }

/-- The configuration taken from a record as read: its fields when the format word matches, the defaults with CONFIG_DEFAULT otherwise (R171). -/
def takeRecord (bytes : Tbl 32 Byte) (s : State) : State :=
  if recordFormat bytes = Config.formatWord then
    { s with loadPhase := .calibration, cfg := readRecord bytes, configDefault := false }
  else { s with loadPhase := .calibration, cfg := Configuration.defaults, configDefault := true }

/-- CONFIG_RECORD_READ (R171, R172). -/
def execConfigRecordRead (bytes : Tbl 32 Byte) (s : State) : Host.Outcome State Fault Refusal :=
  .next (if s.loadsAt .configuration then takeRecord bytes s else s)

/-! ## Calibration -/

/-- Value `n` of the calibration area, above 4095 clamped to 4095 (R173). -/
def calibrationValue (bytes : Tbl 7681 Byte) (n : Nat) : Nat :=
  min 4095 (be16 (bytes.data.getD (2 * n) 0) (bytes.data.getD (2 * n + 1) 0))

/-- The values of a matching calibration area: cells in index order, then sites, R, G, B within each (R173). -/
def readCalibration (bytes : Tbl 7681 Byte) : Calibration where
  cells := Tbl.ofFn fun n => Rgb.ofFn fun k => calibrationValue bytes (3 * n.val + k.index)
  sites := Tbl.ofFn fun n => Rgb.ofFn fun k => calibrationValue bytes (3072 + 3 * n.val + k.index)

/-- Whether the check closing the calibration area matches (R173). -/
def calibrationMatches (bytes : Tbl 7681 Byte) : Bool :=
  decide (crc8Bytes (bytes.data.take 7680) = bytes.get 7680)

/-- The calibration taken from the area as read: its values when the check matches, 512 everywhere with CAL_DEFAULT otherwise (R173). -/
def takeCalibration (bytes : Tbl 7681 Byte) (s : State) : State :=
  if calibrationMatches bytes then
    { s with loadPhase := .retiredList, calibration := readCalibration bytes, calDefault := false }
  else { s with loadPhase := .retiredList, calibration := Calibration.default512, calDefault := true }

/-- CALIBRATION_AREA_READ (R173). -/
def execCalibrationAreaRead (bytes : Tbl 7681 Byte) (s : State) : Host.Outcome State Fault Refusal :=
  .next (if s.loadsAt .calibration then takeCalibration bytes s else s)

/-! ## The retired list -/

/-- What the four bytes of a slot say (R174). -/
def slotAsRead (bytes : Tbl 512 Byte) (slot : Fin 128) : SlotRead :=
  let byte (i : Nat) : Byte := bytes.data.getD (4 * slot.val + i) 0
  readSlot (byte 0) (byte 1) (byte 2) (byte 3)

/-- A slot of the slot map written. -/
def State.setSlot (s : State) (slot : Fin 128) (v : Slot) : State :=
  { s with store := { s.store with slots := s.store.slots.set slot v } }

/-- A stored cell: RETIRED in its record, with an entry of origin STORED, persisted, and no remedy yet (R60, R78). -/
def retireStored (c : Cell) (s : State) : State :=
  (s.setEntries (s.entries ++ [⟨c, .stored, .retired none 0 true⟩])).changeCell c
    fun r => r.becomes .retired

/-- One slot as the load takes it (R174). -/
def loadSlot (bytes : Tbl 512 Byte) (s : State) (slot : Fin 128) : State :=
  match slotAsRead bytes slot with
  | .empty => s.setSlot slot .empty
  | .void => s.setSlot slot .void
  | .broken => s.setSlot slot .void
  | .live c =>
    if (s.entryOf c).isSome then
      let t := s.setSlot slot .void
      { t with store := { t.store with duplicates := t.store.duplicates ++ [slot] } }
    else retireStored c (s.setSlot slot (.live c))

/-- The 128 slots taken in slot order (R174). -/
def takeRetiredList (bytes : Tbl 512 Byte) (s : State) : State :=
  { (List.finRange 128).foldl (loadSlot bytes) s with loadPhase := .complete }

/-- RETIRED_LIST_READ (R174). -/
def execRetiredListRead (bytes : Tbl 512 Byte) (s : State) : Host.Outcome State Fault Refusal :=
  .next (if s.loadsAt .retiredList then takeRetiredList bytes s else s)

/-! ## Entry to RUN -/

/-- A site at entry to RUN: ABSENT when any of its calibration values is 0, otherwise FREE, unproven (R15, R80). -/
def siteAtRun (values : Rgb Nat) : SiteRecord :=
  if siteIsAbsent values then SiteRecord.initial
  else { SiteRecord.initial with state := .free }

/-- The neighbour table as it is set at entry to RUN (R8, R9). -/
def neighbourTable (p : Pos) (cfg : Configuration) : PerDir (Option Neighbour) :=
  let entry (d : Dir) : Option Neighbour := (p.neighbour cfg d).map fun at_ => ⟨at_, .unheard, none⟩
  ⟨entry .n, entry .e, entry .s, entry .w, entry .nw, entry .se⟩

/-- A port at entry to RUN: READY, unless the straps are invalid (R153, R168). -/
def portAtRun (p : Pos) (port : Port) : Port := if p.invalid then port else { port with state := .ready }

/-- Steps 1 and 2 of R175: the sites, the neighbour table, the ports. -/
def enterRunTables (s : State) : State :=
  { s with
    mode := .run
    sites := s.calibration.sites.map siteAtRun
    seam := { s.seam with neighbours := neighbourTable s.position s.cfg }
    ports := s.ports.map (portAtRun s.position) }

/-- Step 3 of R175: a remedy for every stored entry in ascending position, without lists (R78). -/
def chooseStored (s : State) : State := (s.entries.map Entry.cell).foldl (fun s c => chooseRemedy false c s) s

/-- Step 4 of R175: the Supply Monitor takes its state from the input and sets its countdown (R176). -/
def startSupply (s : State) : State :=
  { s with supply := { s.supply with
      state := if s.supply.input then .good else .low, countdown := s.cfg.settleFrames } }

/-- Step 5 of R175: the first pass (R16). -/
def startProbe (s : State) : State := { s with probe := { Probe.cleared with stallTimer := some 0 } }

/-- Step 6 of R175: the voids of duplicate slots are queued in slot order (R174; log entry 14). -/
def queueDuplicateVoids (s : State) : State :=
  let t := s.store.duplicates.foldl (fun s slot => queueWrite (.void slot) s) s
  { t with store := { t.store with duplicates := [] } }

/-- Entry to RUN, its steps in order within the one change, closed by the refresh (R175). -/
def enterRun (s : State) : State :=
  refresh (queueDuplicateVoids (startProbe (startSupply (chooseStored (enterRunTables s)))))

/-- ENTER_RUN (R175). -/
def execEnterRun (s : State) : Host.Outcome State Fault Refusal :=
  .next (if s.loadsAt .complete then enterRun s else s)

end Sys2Proof.Machine
end

