-- ==== Sys2Proof/Machine/Dispatch.lean ====
section
/-! DEFINITION. The meaning of every command, one arm per constructor. -/

namespace Sys2Proof.Machine

def exec (i : Instr) (s : State) : Host.Outcome State Fault Refusal :=
  match i with
  -- Power, the reset line and the start load (chapter 10)
  | .powerOn straps => Sys2Proof.Machine.execPowerOn straps s
  | .resetAssert => Sys2Proof.Machine.execResetAssert s
  | .resetRelease straps => Sys2Proof.Machine.execResetRelease straps s
  | .storeReadyAtLoad => Sys2Proof.Machine.execStoreReadyAtLoad s
  | .storeMissingTimeout => Sys2Proof.Machine.execStoreMissingTimeout s
  | .configRecordRead bytes => Sys2Proof.Machine.execConfigRecordRead bytes s
  | .calibrationAreaRead bytes => Sys2Proof.Machine.execCalibrationAreaRead bytes s
  | .retiredListRead bytes => Sys2Proof.Machine.execRetiredListRead bytes s
  | .enterRun => Sys2Proof.Machine.execEnterRun s
  -- Video and the drive port (chapter 6)
  | .frameBeginMarker => Sys2Proof.Machine.execFrameBeginMarker s
  | .videoCode code => Sys2Proof.Machine.execVideoCode code s
  | .driveFrameSent => Sys2Proof.Machine.execDriveFrameSent s
  | .lossTimerLost => Sys2Proof.Machine.execLossTimerLost s
  | .lossTimerDark => Sys2Proof.Machine.execLossTimerDark s
  | .reEmitTick => Sys2Proof.Machine.execReEmitTick s
  | .darkFrameTick => Sys2Proof.Machine.execDarkFrameTick s
  -- The Probe Engine and the Supply Monitor (chapter 2, section 10.6)
  | .senseReport plan samples => Sys2Proof.Machine.execSenseReport plan samples s
  | .stallTimerExpiry => Sys2Proof.Machine.execStallTimerExpiry s
  | .overrideAppend => Sys2Proof.Machine.execOverrideAppend s
  | .supplyLow => Sys2Proof.Machine.execSupplyLow s
  | .supplyHigh => Sys2Proof.Machine.execSupplyHigh s
  -- Verdicts and sweep ends (chapters 3, 5, 7)
  | .cellVerdict => Sys2Proof.Machine.execCellVerdict s
  | .siteVerdict => Sys2Proof.Machine.execSiteVerdict s
  | .sweepEnd => Sys2Proof.Machine.execSweepEnd s
  -- Timers of the seam (chapters 5, 7, 8)
  | .claimRetryExpiry cell => Sys2Proof.Machine.execClaimRetryExpiry cell s
  | .holdExpiry site => Sys2Proof.Machine.execHoldExpiry site s
  | .neighbourSilent dir => Sys2Proof.Machine.execNeighbourSilent dir s
  | .refreshTimerExpiry => Sys2Proof.Machine.execRefreshTimerExpiry s
  -- The Link Ports (chapter 9)
  | .idleGapAttempt port => Sys2Proof.Machine.execIdleGapAttempt port s
  | .attemptWon port => Sys2Proof.Machine.execAttemptWon port s
  | .contentionLost port => Sys2Proof.Machine.execContentionLost port s
  | .attemptFailed port => Sys2Proof.Machine.execAttemptFailed port s
  | .quietTimerExpiry port => Sys2Proof.Machine.execQuietTimerExpiry port s
  -- Notices received (chapters 5, 7, 8, 9)
  | .noticeMalformed port bits => Sys2Proof.Machine.execNoticeMalformed port bits s
  | .claimReceived rx cell site attemptLessOne => Sys2Proof.Machine.execClaimReceived rx cell site attemptLessOne s
  | .grantReceived rx site cell => Sys2Proof.Machine.execGrantReceived rx site cell s
  | .waitReceived rx site cell => Sys2Proof.Machine.execWaitReceived rx site cell s
  | .refuseReceived rx site cell reason => Sys2Proof.Machine.execRefuseReceived rx site cell reason s
  | .revokeReceived rx site cell => Sys2Proof.Machine.execRevokeReceived rx site cell s
  | .releaseReceived rx site cell => Sys2Proof.Machine.execReleaseReceived rx site cell s
  | .holdListReceived rx pairs => Sys2Proof.Machine.execHoldListReceived rx pairs s
  | .loanListReceived rx pairs => Sys2Proof.Machine.execLoanListReceived rx pairs s
  | .fillListReceived rx edge positions => Sys2Proof.Machine.execFillListReceived rx edge positions s
  | .reportReceived rx tag kind body => Sys2Proof.Machine.execReportReceived rx tag kind body s
  | .sectionRestart rx => Sys2Proof.Machine.execSectionRestart rx s
  -- Service requests (chapter 11)
  | .querySummary rx tag => Sys2Proof.Machine.execQuerySummary rx tag s
  | .queryCell rx tag x y => Sys2Proof.Machine.execQueryCell rx tag x y s
  | .querySite rx tag column row => Sys2Proof.Machine.execQuerySite rx tag column row s
  | .queryEntry rx tag n => Sys2Proof.Machine.execQueryEntry rx tag n s
  | .mark rx tag x y => Sys2Proof.Machine.execMark rx tag x y s
  | .restore rx tag x y => Sys2Proof.Machine.execRestore rx tag x y s
  | .rescan rx tag => Sys2Proof.Machine.execRescan rx tag s
  | .clearFlags rx tag => Sys2Proof.Machine.execClearFlags rx tag s
  | .clearRetired rx tag => Sys2Proof.Machine.execClearRetired rx tag s
  | .serviceRequestUnknown rx tag command arguments => Sys2Proof.Machine.execServiceRequestUnknown rx tag command arguments s
  -- The store (sections 10.7, 10.8)
  | .storeWriteBegin => Sys2Proof.Machine.execStoreWriteBegin s
  | .storeWriteEnd error readBack => Sys2Proof.Machine.execStoreWriteEnd error readBack s
  | .storeWriteTimeout => Sys2Proof.Machine.execStoreWriteTimeout s
  | .storeEraseEnd error => Sys2Proof.Machine.execStoreEraseEnd error s
  | .storeEraseTimeout => Sys2Proof.Machine.execStoreEraseTimeout s

end Sys2Proof.Machine
end

