-- ==== Sys2Proof/Machine/Tick.lean ====
section
/-! DEFINITION. What the part does with no command waiting: work its blocks have handed one another, and otherwise one tick of 10 ms, in which every running timer counts and the expiries that fall due are taken (log entries 5 and 6). -/

namespace Sys2Proof.Machine

/-- The state after a meaning that has one; a stop would leave the state. -/
def settled (s : State) : Host.Outcome State Fault Refusal → State
  | .next t => t
  | .fault _ => s
  | .refused _ => s

/-! ## Timers -/

/-- A site whose hold timer counts a tick (R89, R90). -/
def SiteRecord.ticked (r : SiteRecord) : SiteRecord :=
  match r.state with
  | .held d c timer => { r with state := .held d c (min Config.holdTicks (timer + 1)) }
  | _ => r

/-- An entry whose retry timer counts a tick (R115). -/
def Entry.ticked (e : Entry) : Entry :=
  match e.remedy with
  | some (.asking owner site attempt timer) =>
    e.withRemedy (.asking owner site attempt (min Config.retryTicks (timer + 1)))
  | _ => e

/-- A neighbour whose quiet time counts a tick (R138). -/
def Neighbour.ticked (nb : Neighbour) : Neighbour :=
  { nb with quiet := advanceTimer Config.quietTimeMost nb.quiet }

/-- A port whose quiet timer counts a tick (R158). -/
def Port.ticked (port : Port) : Port :=
  { port with quietTimer := advanceTimer Config.portQuietTicks port.quietTimer }

/-- Every running timer counts a tick. -/
def advanceTimers (s : State) : State :=
  { s with
    intake := { s.intake with lossTimer := advanceTimer Config.darkTicks s.intake.lossTimer }
    probe := { s.probe with stallTimer := advanceTimer Config.stallTicks s.probe.stallTimer }
    entries := s.entries.map Entry.ticked
    sites := s.sites.map SiteRecord.ticked
    seam := { s.seam with
      neighbours := s.seam.neighbours.map fun nb => nb.map Neighbour.ticked
      refreshTimer := advanceTimer s.cfg.refreshTicks s.seam.refreshTimer }
    ports := s.ports.map Port.ticked
    store := { s.store with
      jobTimer := advanceTimer Config.eraseTicks s.store.jobTimer
      pollTimer := advanceTimer Config.pollTicks s.store.pollTimer } }

/-! ## What falls due -/

/-- The frame being sent and the one waiting behind it are complete within a tick (R105; log entry 18). -/
def framesSent (s : State) : State := { s with render := s.render.sent.sent }

/-- The loss timer's expiry when it is due, else the tick's re-emission or frame of all zeros (R100 to R102). -/
def intakeDue (s : State) : State :=
  match s.intake.state with
  | .receiving =>
    if timerReached Config.lostTicks s.intake.lossTimer then settled s (execLossTimerLost s) else s
  | .lost =>
    if timerReached Config.darkTicks s.intake.lossTimer then settled s (execLossTimerDark s)
    else settled s (execReEmitTick s)
  | .dark => settled s (execDarkFrameTick s)

/-- The stall timer's expiry (R38). -/
def stallDue (s : State) : State :=
  if timerReached Config.stallTicks s.probe.stallTimer then settled s (execStallTimerExpiry s) else s

/-- The expiry of one site's hold (R90). -/
def holdDue (s : State) (site : Site) : State :=
  match (s.site site).state with
  | .held _ _ timer => if Config.holdTicks ≤ timer then endHold site s else s
  | _ => s

/-- The expiry of one claim's retry timer (R117). -/
def retryDue (s : State) (c : Cell) : State :=
  match s.remedyOf c with
  | some (.asking _ _ _ timer) => if Config.retryTicks ≤ timer then retryClaim c s else s
  | _ => s

/-- The silence of one neighbour (R140). -/
def silenceDue (s : State) (d : Dir) : State :=
  match s.neighbour d with
  | some nb =>
    if nb.presence = .present ∧ timerReached s.cfg.silenceTicks nb.quiet then silenceNeighbour d s else s
  | none => s

/-- The refresh (R143). -/
def refreshDue (s : State) : State :=
  if timerReached s.cfg.refreshTicks s.seam.refreshTimer then refresh s else s

/-- The end of one port's QUIET (R158). -/
def portQuietDue (s : State) (p : PortId) : State :=
  if timerReached Config.portQuietTicks (s.port p).quietTimer then settled s (execQuietTimerExpiry p s) else s

/-- The time limits of a write, of an erase, and of polling the store (R170, R178, R180). -/
def storeDue (s : State) : State :=
  match s.store.state with
  | .writing =>
    if timerReached Config.writeTicks s.store.jobTimer then settled s (execStoreWriteTimeout s) else s
  | .erasing =>
    if timerReached Config.eraseTicks s.store.jobTimer then settled s (execStoreEraseTimeout s) else s
  | _ => if timerReached Config.pollTicks s.store.pollTimer then settled s (execStoreMissingTimeout s) else s

/-- Everything that falls due in a tick, in the order of log entry 6. -/
def takeDue (s : State) : State :=
  let s := stallDue (intakeDue s)
  let s := allSites.foldl holdDue s
  let s := (s.entries.map Entry.cell).foldl retryDue s
  let s := Dir.all.foldl silenceDue s
  let s := refreshDue s
  storeDue (portQuietDue (portQuietDue s .a) .b)

/-- One tick of 10 ms with nothing commanded. -/
def tick (s : State) : State := takeDue (advanceTimers (framesSent s))

/-! ## Idling -/

/-- Whether a store operation waits and the store can begin it: IDLE is enough (R177, R180; log entry 26). -/
def State.storeCanBegin (s : State) : Bool :=
  decide (s.mode = .run ∧ s.store.state = .idle) && !(s.store.rewrite.isEmpty && s.store.pendingWrites.isEmpty)

/-- What the part does when no command waits: nothing while the reset line is held; else entry to RUN when the load is complete, the oldest work handed from block to block, a store operation that can begin, or a tick. -/
def idle (s : State) : State :=
  if s.mode = .held then s
  else if s.loadsAt .complete then settled s (execEnterRun s)
  else if s.handed.appendRequests ≠ [] then settled s (execOverrideAppend s)
  else if s.handed.cellVerdicts ≠ [] then settled s (execCellVerdict s)
  else if s.handed.siteVerdicts ≠ [] then settled s (execSiteVerdict s)
  else if s.handed.sweepEnds ≠ 0 then settled s (execSweepEnd s)
  else if s.storeCanBegin then settled s (execStoreWriteBegin s)
  else tick s

end Sys2Proof.Machine
end

