-- ==== Sys2Proof/Safety.lean ====
section
/-! DEFINITION. What the statements speak of: clamping to a range, when a notice or a request is taken, the offer of a freed site, the answer to a request, and the invariants of the part. -/

namespace Sys2Proof.Machine

/-! ## Words of the statements -/

/-- A value outside a range moved to the nearer end of it (R172). -/
def nearest (low high v : Nat) : Nat := if v < low then low else if high < v then high else v

/-- A notice read at a port comes to be acted on as one of a neighbour in a direction: the port reads, the source is not this tile's own position, it has that direction, and the notice is addressed to this tile or to ALL (R10, R153, R163, R164). -/
structure Takes (s : State) (rx : Rx) (d : Dir) : Prop where
  reads : (s.port rx.port).state ≠ .off
  other : s.clashes rx.src = false
  direction : s.directionOf rx.src = some d
  addressed : s.addressed rx.dst = true

/-- A notice of a service station, addressed to this tile's own position, comes to be acted on (R163 to R165). -/
structure FromStation (s : State) (rx : Rx) : Prop where
  reads : (s.port rx.port).state ≠ .off
  station : rx.src.isStation = true
  addressed : rx.dst = s.position

/-- The remedy written into a cell's RETIRED entry, and nothing else changed. -/
def State.writeRemedy (s : State) (c : Cell) (r : Remedy) : State :=
  { s with entries := changeEntry c (fun e => e.withRemedy r) s.entries }

/-- The first own cell of a site's quad, in ascending cell index, that waits in FILL(QUAD_BUSY) (R87). -/
def State.waiter (s : State) (site : Site) : Option Cell :=
  site.quadCells.find? fun c => decide (s.remedyOf c = some (.fill .quadBusy))

/-- A cell that leaves the filled cells: out of the set of each of its edges, with a FILL_LIST for each (R76, R146). -/
def State.unfilled (s : State) (c : Cell) : State := sendFillLists c (s.markCell c false)

/-- A cell that joins the filled cells: into the set of each of its edges, with a FILL_LIST for each (R76, R146). -/
def State.nowFilled (s : State) (c : Cell) : State := sendFillLists c (s.markCell c true)

/-- A site freed and offered (R87): taken by the first waiting own cell, otherwise FREE. -/
def State.offered (s : State) (site : Site) : State :=
  match s.waiter site with
  | none => s.setSiteState site .free
  | some c => ((s.setSiteState site (.own c)).writeRemedy c (.ownSpare site)).unfilled c

/-- A site freed and offered while a section restart is made: as at any time, but no list of its own is sent (R87, R94, R146). -/
def State.offeredQuietly (s : State) (site : Site) : State :=
  match s.waiter site with
  | none => s.setSiteState site .free
  | some c => ((s.setSiteState site (.own c)).writeRemedy c (.ownSpare site)).markCell c false

/-- The sites whose state a test picks, in ascending site index. -/
def State.sitesThat (s : State) (picks : Site → SiteState → Bool) : List Site :=
  ((List.finRange 256).map Site.ofIndex).filter fun site => picks site (s.site site).state

/-- Whether a site is LENT to, or HELD for, a direction that a test picks (R94). -/
def SiteState.givenTo (picks : BorrowerDir → Bool) : SiteState → Bool
  | .lent b _ => picks b
  | .held b _ _ => picks b
  | _ => false

/-- The answers to a request, at the end of the answer queue of its port and addressed to its station (R182). -/
def State.replied (s : State) (rx : Rx) (tag : Byte) (reports : List Report) : State :=
  s.setPort rx.port { s.port rx.port with
    answers := (s.port rx.port).answers ++ reports.map fun r => ⟨s.position, rx.src, r.body tag⟩ }

/-- An answer or a REVOKE from a direction, naming a site and a cell, matches the cell's entry: ASKING or LOAN with that owner direction and site (R118). -/
def Matches (s : State) (d : Dir) (site : Site) (c : Cell) : Prop :=
  ∃ owner : OwnerDir, owner.toDir = d ∧
    (s.remedyOf c = some (.loan owner site) ∨ ∃ n timer, s.remedyOf c = some (.asking owner site n timer))

/-- A cell verdict that is taken as FAULT: FAULT, or WEAK with a gain above G_max (R47). -/
def CellVerdict.takenAsFault (v : CellVerdict) (gMax : Nat) : Prop :=
  v.judgement = .fault ∨ ∃ gains, v.judgement = .weak gains ∧ (gMax < gains.r ∨ gMax < gains.g ∨ gMax < gains.b)

/-- A cell verdict that is a compensable WEAK with these gains (R47). -/
def CellVerdict.takenAsWeak (v : CellVerdict) (gMax : Nat) (gains : Rgb Nat) : Prop :=
  v.judgement = .weak gains ∧ gains.r ≤ gMax ∧ gains.g ≤ gMax ∧ gains.b ≤ gMax

/-- A verdict record with what a verdict leaves in it (R43). -/
def CellRecord.seen (r : CellRecord) (v : CellVerdict) (last : LastVerdict) : CellRecord :=
  { r with lastVerdict := last, responses := v.responses, sweep := v.sweep }

/-- A cell made RETIRED, or made anything else, with all runs 0 (R52, R56, R57). -/
def CellRecord.turned (r : CellRecord) (c : Condition) : CellRecord :=
  { r with condition := c, faultRun := 0, weakRun := 0, healthyRun := 0 }

/-- What the tests of R74 give for a home site of another tile. -/
def State.claimResult (s : State) (owner : OwnerDir) (site : Site) : Remedy :=
  match s.neighbour owner.toDir with
  | none => .fill .noNeighbour
  | some nb =>
    if s.cfg.lending = false then .fill .lendingOff
    else if nb.presence = .present then .asking owner site 1 0
    else .fill .ownerSilent

/-- A re-claim of a filled entry (R127): the result of the tests of R74 written into its remedy, with a CLAIM of attempt 1 when the result is ASKING.
The cell stays filled, so nothing else is told. An own cell's choice is that of R73. -/
def State.reclaimed (s : State) (c : Cell) : State :=
  match c.home with
  | .own _ => chooseRemedy true c s
  | .foreign owner site =>
    match s.claimResult owner site with
    | .asking owner' site' n timer =>
      sendTo owner.toDir (.claim c site 0) (s.writeRemedy c (.asking owner' site' n timer))
    | result => s.writeRemedy c result

/-- A change of a cell's remedy told to the Seam Agent by whether the cell is filled before and after it: no list while the part enters RUN or restarts (R76, R146). -/
def State.told (s : State) (announce : Bool) (c : Cell) (before after : Bool) : State :=
  if before = after then s
  else if announce = false then s.markCell c after
  else if after = true then s.nowFilled c
  else s.unfilled c

/-- One entry whose owner may be lost (R133): LOAN and ASKING become FILL(OWNER_SILENT), and a LOAN's cell joins the filled cells. -/
def State.ownerLost (s : State) (announce : Bool) (lost : OwnerDir → Bool) (c : Cell) : State :=
  match s.remedyOf c with
  | some (.loan owner _) =>
    if lost owner then (s.writeRemedy c (.fill .ownerSilent)).told announce c false true else s
  | some (.asking owner _ _ _) => if lost owner then s.writeRemedy c (.fill .ownerSilent) else s
  | _ => s

/-- One entry's choice made anew at a section restart: for a FILL remedy, with no list of its own (R79, R146). -/
def State.chosenAnew (s : State) (c : Cell) : State :=
  match s.remedyOf c with
  | some (.fill _) => chooseRemedy false c s
  | _ => s

/-- What an entry holds beside its remedy (R63). -/
def Entry.beside (e : Entry) : Entry :=
  match e.body with
  | .dim gains => ⟨e.cell, e.origin, .dim gains⟩
  | .retired _ at_ persisted => ⟨e.cell, e.origin, .retired none at_ persisted⟩

/-- The lists of a refresh, direction by direction, N, E, S, W, NW, SE (R143): FILL_LIST before LOAN_LIST or HOLD_LIST. -/
def State.listsSent (s : State) : State :=
  let fill (edge : Edge) (t : State) : State := sendTo edge.toDir (.fillList edge (s.filledPositions edge)) t
  let loans (b : BorrowerDir) (t : State) : State := sendTo b.toDir (.loanList (s.loansTo b)) t
  let holds (owner : OwnerDir) (t : State) : State := sendTo owner.toDir (.holdList (s.loansFrom owner)) t
  holds .se (loans .nw (loans .w (fill .w (holds .s (fill .s (holds .e (fill .e (loans .n (fill .n s)))))))))

/-! ## A tick (log entries 5 and 6) -/

/-- The state a command leaves. -/
def State.after (s : State) (c : Instr) : State := settled s (exec c s)

/-- The state with a command run on it when it is due. -/
def State.whenDue (s : State) (isDue : Bool) (c : Instr) : State := if isDue then s.after c else s

/-- A running timer counts a tick and stands at its limit; a stopped one stands (00, "Time"). -/
def counted (limit : Nat) (t : Timer) : Timer := t.map fun n => if n < limit then n + 1 else limit

/-- Whether a running timer has come to so many ticks. -/
def hasCome (limit : Nat) (t : Timer) : Bool := t.any fun n => decide (limit ≤ n)

/-- Every running timer counts a tick: loss (R100), stall (R38), retries (R115), holds (R89), quiet times (R138), refresh (R143), quiet ports (R158), the store's operation and its polling (R170, R178, R180). -/
def State.timersCounted (s : State) : State :=
  { s with
    intake := { s.intake with lossTimer := counted 200 s.intake.lossTimer }
    probe := { s.probe with stallTimer := counted 1000 s.probe.stallTimer }
    entries := s.entries.map fun e =>
      match e.remedy with
      | some (.asking owner site n timer) => e.withRemedy (.asking owner site n (min 25 (timer + 1)))
      | _ => e
    sites := s.sites.map fun r =>
      match r.state with
      | .held d c timer => { r with state := .held d c (min 500 (timer + 1)) }
      | _ => r
    seam := { s.seam with
      neighbours := s.seam.neighbours.map fun nb =>
        nb.map fun entry => { entry with quiet := counted 65535 entry.quiet }
      refreshTimer := counted (100 * s.cfg.tRef) s.seam.refreshTimer }
    ports := s.ports.map fun port => { port with quietTimer := counted 100 port.quietTimer }
    store := { s.store with
      jobTimer := counted 500 s.store.jobTimer, pollTimer := counted 100 s.store.pollTimer } }

/-- What the Video Intake's state makes due: LOST at 10 ticks, DARK at 200, and until then its frame of every tick (R100 to R102). -/
def State.intakeTick (s : State) : State :=
  match s.intake.state with
  | .receiving => s.whenDue (hasCome 10 s.intake.lossTimer) .lossTimerLost
  | .lost => if hasCome 200 s.intake.lossTimer then s.after .lossTimerDark else s.after .reEmitTick
  | .dark => s.after .darkFrameTick

/-- A hold is due at 500 ticks (R90). -/
def State.holdTick (s : State) (site : Site) : State :=
  match (s.site site).state with
  | .held _ _ timer => s.whenDue (decide (500 ≤ timer)) (.holdExpiry site)
  | _ => s

/-- A claim's retry is due at 25 ticks (R117). -/
def State.retryTick (s : State) (c : Cell) : State :=
  match s.remedyOf c with
  | some (.asking _ _ _ timer) => s.whenDue (decide (25 ≤ timer)) (.claimRetryExpiry c)
  | _ => s

/-- A PRESENT neighbour's silence is due at 300 × T_ref ticks (R138, R140). -/
def State.silenceTick (s : State) (d : Dir) : State :=
  match s.neighbour d with
  | some nb =>
    s.whenDue (decide (nb.presence = .present) && hasCome (300 * s.cfg.tRef) nb.quiet) (.neighbourSilent d)
  | none => s

/-- A port's QUIET ends at 100 ticks (R158). -/
def State.portTick (s : State) (p : PortId) : State :=
  s.whenDue (hasCome 100 (s.port p).quietTimer) (.quietTimerExpiry p)

/-- A write has failed at 50 ticks (R178), an erase at 500 (R180), and the store is missing at 100 ticks of polling (R170). -/
def State.storeTick (s : State) : State :=
  match s.store.state with
  | .writing => s.whenDue (hasCome 50 s.store.jobTimer) .storeWriteTimeout
  | .erasing => s.whenDue (hasCome 500 s.store.jobTimer) .storeEraseTimeout
  | _ => s.whenDue (hasCome 100 s.store.pollTimer) .storeMissingTimeout

/-- A tick of 10 ms: the frame being sent and the one behind it are sent, every running timer counts, and each expiry that has come is taken as its command, in the order of log entry 6. -/
def State.ticked (s : State) : State :=
  let t := ((s.after .driveFrameSent).after .driveFrameSent).timersCounted.intakeTick
  let t := t.whenDue (hasCome 1000 t.probe.stallTimer) .stallTimerExpiry
  let t := ((List.finRange 256).map Site.ofIndex).foldl State.holdTick t
  let t := (t.entries.map Entry.cell).foldl State.retryTick t
  let t := [Dir.n, .e, .s, .w, .nw, .se].foldl State.silenceTick t
  let t := t.whenDue (hasCome (100 * t.cfg.tRef) t.seam.refreshTimer) .refreshTimerExpiry
  ((t.portTick .a).portTick .b).storeTick

/-- The addressing of a command that is a notice read at a port, and NOTICE_MALFORMED has none (R163, R164). -/
def noticeRx : Instr → Option Rx
  | .claimReceived rx _ _ _ => some rx
  | .grantReceived rx _ _ => some rx
  | .waitReceived rx _ _ => some rx
  | .refuseReceived rx _ _ _ => some rx
  | .revokeReceived rx _ _ => some rx
  | .releaseReceived rx _ _ => some rx
  | .holdListReceived rx _ => some rx
  | .loanListReceived rx _ => some rx
  | .fillListReceived rx _ _ => some rx
  | .reportReceived rx _ _ _ => some rx
  | .sectionRestart rx => some rx
  | .querySummary rx _ => some rx
  | .queryCell rx _ _ _ => some rx
  | .querySite rx _ _ _ => some rx
  | .queryEntry rx _ _ => some rx
  | .mark rx _ _ _ => some rx
  | .restore rx _ _ _ => some rx
  | .rescan rx _ => some rx
  | .clearFlags rx _ => some rx
  | .clearRetired rx _ => some rx
  | .serviceRequestUnknown rx _ _ _ => some rx
  | _ => none

/-- Whether a command is power or the reset line, which alone end a run (R167). -/
def restartsPart : Instr → Bool
  | .powerOn _ => true
  | .resetAssert => true
  | .resetRelease _ => true
  | _ => false

/-- The wanted video of a cell, own or in the apron, that is filled: what its edge neighbours share (R107, R110). -/
def State.fillsAt (s : State) (e : ExtCell) : Bool :=
  match Cell.ofInts e.x e.y with
  | some c => s.isFilledCell c
  | none => s.seam.foreignFills.any fun r => decide (r.apronCell = e)

/-- The fill of a lit own cell: for each filled edge neighbour, its code times F over 64, rounded down by itself (R110). -/
def State.fillFor (s : State) (vi : Intake) (c : Cell) (k : Colour) : Nat :=
  (c.edgeNeighbours.map fun e => if s.fillsAt e then vi.code e k * s.cfg.fillShare / 64 else 0).sum

/-! ## Invariants -/

/-- A port's queues are within their places, and no waiting list is one that another would have replaced (R160, R161). -/
def Port.queuesSound (port : Port) : Prop :=
  port.answers.length ≤ 4 ∧ port.notices.length ≤ 12 ∧
    port.notices.Pairwise fun old new => replaces new old = false

/-- Every list of the part is within its capacity (R34, R147, R161, R177). -/
def ListsWithinCapacity (s : State) : Prop :=
  s.ports.a.queuesSound ∧ s.ports.b.queuesSound ∧
    s.store.pendingWrites.length ≤ 8 ∧
    s.probe.overrides.length ≤ 4 ∧ s.probe.overrides.Nodup ∧
    s.seam.foreignFills.length ≤ 64 ∧ s.seam.foreignFills.Nodup

/-- The chip state after so many counted frames of a pass (R19). -/
def chipAfter : Nat → Nat
  | 0 => 1
  | n + 1 => nextChip (chipAfter n)

/-- How many of the first counted frames of a pass are ON (R19). -/
def onAmong : Nat → Nat
  | 0 => 0
  | n + 1 => onAmong n + (chipIsOn (chipAfter n)).toNat

/-- The pass in progress is sound (section 2.1): the sequence, the counts and the sums agree with the counted frames, and every gain level is 0..3. -/
def PassSound (s : State) : Prop :=
  s.probe.n < 63 ∧ s.probe.chip = chipAfter s.probe.n ∧
    s.probe.onCount = onAmong s.probe.n ∧ s.probe.onCount + s.probe.offCount = s.probe.n ∧
    (∀ i, s.probe.onSum.get i ≤ 4095 * s.probe.onCount) ∧
    (∀ i, s.probe.offSum.get i ≤ 4095 * s.probe.offCount) ∧
    (∀ i, s.probe.gain.get i ≤ 3) ∧ s.probe.sweepCount < 16777216 ∧
    ∀ plan, s.probe.plan = some plan → plan.chipOn = chipIsOn s.probe.chip

/-- Every code of a drive frame lies in 0..65535 (R109). -/
def DriveFrame.codesSound (f : DriveFrame) : Prop :=
  (∀ n k, (f.cells.get n).get k ≤ 65535) ∧ ∀ n k, (f.sites.get n).get k ≤ 65535

/-- Every frame at the drive port holds codes of 0..65535 (R109). -/
def DriveCodesSound (s : State) : Prop :=
  s.render.last.codesSound ∧ (∀ f, s.render.waiting = some f → f.codesSound) ∧
    ∀ kind f, s.render.sending = some (kind, f) → f.codesSound

/-- The condition that an entry shows (R45). -/
def Entry.condition (e : Entry) : Condition := if e.isRetired then .retired else .dim

/-- Outside RUN the ports are OFF with no attempt on the line and nothing is handed on; until the retired list is read the remap table is empty (R62, R153, R167). -/
def QuietOutsideRun (s : State) : Prop :=
  s.mode ≠ .run →
    (∀ p, (s.port p).state = .off ∧ (s.port p).attempt = none) ∧ s.handed = Handed.nothing ∧
      (s.loadPhase ≠ .complete → s.entries = [])

/-- A cell has an entry exactly when its condition is DIM or RETIRED, and the entry's condition is the cell's (R45). -/
def EntriesMatchConditions (s : State) : Prop :=
  ∀ c, match s.entryOf c with
    | some e => (s.cell c).condition = e.condition
    | none => (s.cell c).condition = .good ∨ (s.cell c).condition = .suspect

/-- The remap table holds at most 128 entries and at most one per cell, and agrees with the conditions (R45, R62). -/
def TableSound (s : State) : Prop :=
  QuietOutsideRun s ∧ s.entries.length ≤ 128 ∧ (s.entries.map Entry.cell).Nodup ∧ EntriesMatchConditions s

/-- A cell's remedy is OWN_SPARE with a site exactly when that site is OWN naming the cell (R64); outside RUN there is neither (R78, R80). -/
def OwnSparesMatchSites (s : State) : Prop :=
  (∀ c site, s.remedyOf c = some (.ownSpare site) ↔ (s.site site).state = .own c) ∧
    (s.mode ≠ .run → (∀ site, (s.site site).state = .absent) ∧ ∀ e ∈ s.entries, e.remedy = none)

end Sys2Proof.Machine
end

