-- ==== Sys2Proof/WellFormed.lean ====
section
/-! DEFINITION. Which commands are ones the outside can send: counts within what the wires carry, and the two raw commands really malformed or unknown. -/

namespace Sys2Proof

/-- Whether a command is well formed.
SENSE_REPORT: at most the 144 samples of a frame (R20).
NOTICE_MALFORMED: bits that are not a well-formed notice (R155, R163).
HOLD_LIST, LOAN_LIST, FILL_LIST, REPORT: a count and a length of the kind (R155).
SERVICE_REQUEST_UNKNOWN: a payload of 2..40 bytes that spells none of the nine commands (R182, R186). -/
def Instr.wellFormed : Instr → Bool
  | .powerOn _ => true
  | .resetAssert => true
  | .resetRelease _ => true
  | .storeReadyAtLoad => true
  | .storeMissingTimeout => true
  | .configRecordRead _ => true
  | .calibrationAreaRead _ => true
  | .retiredListRead _ => true
  | .enterRun => true
  | .frameBeginMarker => true
  | .videoCode _ => true
  | .driveFrameSent => true
  | .lossTimerLost => true
  | .lossTimerDark => true
  | .reEmitTick => true
  | .darkFrameTick => true
  | .senseReport _ samples => decide (samples.length ≤ 144)
  | .stallTimerExpiry => true
  | .overrideAppend => true
  | .supplyLow => true
  | .supplyHigh => true
  | .cellVerdict => true
  | .siteVerdict => true
  | .sweepEnd => true
  | .claimRetryExpiry _ => true
  | .holdExpiry _ => true
  | .neighbourSilent _ => true
  | .refreshTimerExpiry => true
  | .idleGapAttempt _ => true
  | .attemptWon _ => true
  | .contentionLost _ => true
  | .attemptFailed _ => true
  | .quietTimerExpiry _ => true
  | .noticeMalformed _ bits => (Machine.readNotice bits).isNone
  | .claimReceived .. => true
  | .grantReceived .. => true
  | .waitReceived .. => true
  | .refuseReceived .. => true
  | .revokeReceived .. => true
  | .releaseReceived .. => true
  | .holdListReceived _ pairs => Machine.countInRange (.holdList pairs)
  | .loanListReceived _ pairs => Machine.countInRange (.loanList pairs)
  | .fillListReceived _ edge positions => Machine.countInRange (.fillList edge positions)
  | .reportReceived _ tag kind body => Machine.countInRange (.report tag kind body)
  | .sectionRestart _ => true
  | .querySummary .. => true
  | .queryCell .. => true
  | .querySite .. => true
  | .queryEntry .. => true
  | .mark .. => true
  | .restore .. => true
  | .rescan .. => true
  | .clearFlags .. => true
  | .clearRetired .. => true
  | .serviceRequestUnknown _ tag command arguments =>
    Machine.countInRange (.serviceRequest tag command arguments) &&
      (Machine.readCommand command arguments).isNone
  | .storeWriteBegin => true
  | .storeWriteEnd .. => true
  | .storeWriteTimeout => true
  | .storeEraseEnd _ => true
  | .storeEraseTimeout => true

end Sys2Proof
end

