-- ==== Sys2Proof/Certificates/Slice0/Obligations.lean ====
section
/-! DEFINITION. The statements for the provers, each a rule of the spec or a property that follows from its rules. -/

section

open Sys2Proof Sys2Proof.Machine

/-! ## Steps and the queue of commands -/

/-- A step with commands waiting runs the one at the front on the state with the rest of the queue (the model's form; log entry 22). -/
def Obligations.StepRunsFrontCommand : Prop :=
  ∀ (c : Instr) (rest : List Instr) (s : State),
    step { s with pending := c :: rest } = exec c { s with pending := rest }

/-- Every command is answered by a next state, and leaves the waiting commands as they are (section 95: each step is whole). -/
def Obligations.CommandsAnswerNextAndKeepQueue : Prop :=
  ∀ (c : Instr) (s : State), ∃ t, exec c s = .next t ∧ t.pending = s.pending

/-- A step with no command waiting takes what the part's blocks have handed one another, in a fixed order; with nothing handed on and no store operation to begin it is a tick, in which every running timer counts and each expiry is taken at its limit (the model's choice: log entries 5 and 6; the beginning of a store operation: log entry 26). -/
def Obligations.EmptyQueueStep : Prop :=
  ∀ s : State, s.pending = [] → ∃ t, step s = .next t ∧ t.pending = [] ∧
    (s.mode = .held → t = s) ∧
    (s.mode = .loading → s.loadPhase = .complete → exec .enterRun s = .next t) ∧
    (s.mode = .run → s.handed.appendRequests ≠ [] → exec .overrideAppend s = .next t) ∧
    (s.mode = .run → s.handed.appendRequests = [] → s.handed.cellVerdicts ≠ [] →
      exec .cellVerdict s = .next t) ∧
    (s.mode = .run → s.handed.appendRequests = [] → s.handed.cellVerdicts = [] →
      s.handed.siteVerdicts ≠ [] → exec .siteVerdict s = .next t) ∧
    (s.mode = .run → s.handed.appendRequests = [] → s.handed.cellVerdicts = [] →
      s.handed.siteVerdicts = [] → s.handed.sweepEnds ≠ 0 → exec .sweepEnd s = .next t) ∧
    (s.mode = .run → s.handed = Handed.nothing → s.store.state = .idle →
      (s.store.rewrite ≠ [] ∨ s.store.pendingWrites ≠ []) → exec .storeWriteBegin s = .next t) ∧
    (s.mode ≠ .held → ¬ (s.mode = .loading ∧ s.loadPhase = .complete) → s.handed = Handed.nothing →
      ¬ (s.mode = .run ∧ s.store.state = .idle ∧ (s.store.rewrite ≠ [] ∨ s.store.pendingWrites ≠ [])) →
      t = s.ticked)

/-! ## Power, the reset line and the load -/

/-- The state after reset is at the cleared values of every block (R16, R42, R80, R138, R153, R167, R187; the straps by log entry 1, the configuration by log entry 3). -/
def Obligations.ResetValues : Prop :=
  let s := State.reset
  s.mode = .loading ∧ s.loadPhase = .pollStore ∧ s.position = ⟨0, 0⟩ ∧
    s.flags = ⟨false, false, false, false, false, false, false, false, false, false⟩ ∧
    s.configDefault = false ∧ s.calDefault = false ∧ s.entries = [] ∧ s.pending = [] ∧
    (∀ c, s.cell c = ⟨.good, .never, 0, 0, 0, ⟨0, 0, 0⟩, 0⟩) ∧
    (∀ site, s.site site = ⟨.absent, false, 0, .never⟩) ∧
    (∀ n k, (s.calibration.cells.get n).get k = 0) ∧ (∀ n k, (s.calibration.sites.get n).get k = 0) ∧
    (∀ i, s.intake.window.get i = 0) ∧ s.intake.receiving = none ∧ s.intake.state = .dark ∧
    s.intake.lossTimer = none ∧ s.render.snapshot = Snapshot.empty ∧ s.render.waiting = none ∧
    s.probe.chip = 1 ∧ s.probe.p = 0 ∧ s.probe.q = 0 ∧ s.probe.overrides = [] ∧ s.probe.n = 0 ∧
    s.probe.onCount = 0 ∧ s.probe.offCount = 0 ∧
    (∀ i, s.probe.onSum.get i = 0 ∧ s.probe.offSum.get i = 0 ∧ s.probe.sat.get i = false ∧
      s.probe.leak.get i = false ∧ s.probe.gain.get i = 3) ∧
    s.probe.plan = none ∧ s.probe.clean = false ∧ s.probe.stallTimer = none ∧ s.probe.sweepCount = 0 ∧
    s.supply.state = .low ∧ s.supply.countdown = 0 ∧
    (∀ d, s.neighbour d = none) ∧ (∀ edge p, (s.seam.filledEdges.get edge).get p = false) ∧
    s.seam.foreignFills = [] ∧ s.seam.refreshTimer = none ∧
    (∀ p, s.port p = ⟨.off, [], [], none, none, false, 0, none⟩) ∧
    s.store.state = .idle ∧ (∀ slot, s.store.slots.get slot = .empty) ∧ s.store.pendingWrites = [] ∧
    s.store.rewrite = [] ∧ s.store.job = none ∧ s.lastTags = ⟨none, none⟩

/-- POWER_ON and RESET_RELEASE start LOADING from the cleared values with the straps read; RESET_ASSERT clears everything and the part does nothing (R102, R167, R168). The model's choices: the supply-good pin keeps its level (log entry 2), the configuration stands at the defaults before the load (log entry 3), a frame of zeros is being sent at the start (log entry 4), RESET_RELEASE starts the part even when the line was not held (log entry 8), POWER_ON starts it even while the line is held (log entry 27), the position is kept while the line is held (log entry 17). -/
def Obligations.PowerAndResetLine : Prop :=
  ∀ (straps : Pos) (s : State),
    let started : State := { State.reset with
      position := straps, supply := { State.reset.supply with input := s.supply.input }, pending := s.pending }
    exec (.powerOn straps) s = .next started ∧
    exec (.resetRelease straps) s = .next started ∧
    exec .resetAssert s = .next { started with
      position := s.position, mode := .held
      render := { State.reset.render with sending := none }
      store := { State.reset.store with pollTimer := none } }

/-- The store answers or does not at the load (R170); at any other time the two commands change nothing (log entry 8). -/
def Obligations.StorePolledAtLoad : Prop :=
  ∀ s : State,
    (s.mode = .loading → s.loadPhase = .pollStore →
      exec .storeReadyAtLoad s =
        .next { s with loadPhase := .configuration, store := { s.store with pollTimer := none } } ∧
      exec .storeMissingTimeout s =
        .next { s with
          loadPhase := .complete
          store := { s.store with state := .missing, pollTimer := none }
          cfg := ⟨127, 63, 4, 12, 24, 96, 3, 2, 8192, 8, 32768, 10, 8, true⟩
          configDefault := true
          calibration := ⟨Tbl.fill 1024 ⟨512, 512, 512⟩, Tbl.fill 256 ⟨512, 512, 512⟩⟩
          calDefault := true }) ∧
    (¬ (s.mode = .loading ∧ s.loadPhase = .pollStore) →
      exec .storeReadyAtLoad s = .next s ∧ exec .storeMissingTimeout s = .next s)

/-- A matching configuration record is used field by field, each field clamped to the nearer end of its range (R172). -/
def Obligations.ConfigurationFieldsClamped : Prop :=
  ∀ (bytes : Tbl 32 Byte) (s : State),
    s.mode = .loading → s.loadPhase = .configuration → bytes.get 0 = 0x32#8 → bytes.get 1 = 0x01#8 →
    let dead := nearest 1 15 (bytes.get 4).toNat
    let weak := nearest 1 15 (bytes.get 5).toNat
    ∃ cfg : Configuration,
      exec (.configRecordRead bytes) s =
        .next { s with loadPhase := .calibration, cfg := cfg, configDefault := false } ∧
      cfg.faceWidth = nearest 1 127 (bytes.get 2).toNat ∧
      cfg.faceHeight = nearest 1 63 (bytes.get 3).toNat ∧
      (dead < weak → cfg.tDead = dead ∧ cfg.tWeak = weak) ∧
      (weak ≤ dead → dead < 15 → cfg.tDead = dead ∧ cfg.tWeak = dead + 1) ∧
      (weak ≤ dead → dead = 15 → cfg.tDead = 14 ∧ cfg.tWeak = 15) ∧
      cfg.tHot = nearest 17 48 (bytes.get 6).toNat ∧
      cfg.lLeak = nearest 1 4095 (256 * (bytes.get 7).toNat + (bytes.get 8).toNat) ∧
      cfg.k = nearest 1 7 (bytes.get 9).toNat ∧
      cfg.kDim = nearest 1 7 (bytes.get 10).toNat ∧
      cfg.gMax = nearest 4096 16384 (256 * (bytes.get 11).toNat + (bytes.get 12).toNat) ∧
      cfg.fillShare = nearest 0 16 (bytes.get 13).toNat ∧
      cfg.probeCode = nearest 1 65535 (256 * (bytes.get 14).toNat + (bytes.get 15).toNat) ∧
      cfg.tRef = nearest 2 60 (bytes.get 16).toNat ∧
      cfg.settleFrames = nearest 0 63 (bytes.get 17).toNat ∧
      (cfg.lending = true ↔ bytes.get 18 = 1#8)

/-- A configuration record whose format word is not 0x3201 gives the built-in defaults and CONFIG_DEFAULT (R171). -/
def Obligations.ConfigurationDefaults : Prop :=
  ∀ (bytes : Tbl 32 Byte) (s : State),
    s.mode = .loading → s.loadPhase = .configuration → ¬ (bytes.get 0 = 0x32#8 ∧ bytes.get 1 = 0x01#8) →
    exec (.configRecordRead bytes) s = .next { s with
      loadPhase := .calibration
      cfg := ⟨127, 63, 4, 12, 24, 96, 3, 2, 8192, 8, 32768, 10, 8, true⟩
      configDefault := true }

/-- The calibration area: each value taken and clamped when its check matches, 512 everywhere with CAL_DEFAULT when it does not (R173). -/
def Obligations.CalibrationTaken : Prop :=
  ∀ (bytes : Tbl 7681 Byte) (s : State), s.mode = .loading → s.loadPhase = .calibration →
    let good : Bool := decide (crc8 (bitsOfBytes (bytes.data.take 7680)) = bytes.get 7680)
    let value (n : Nat) : Nat :=
      nearest 0 4095 (256 * (bytes.data.getD (2 * n) 0).toNat + (bytes.data.getD (2 * n + 1) 0).toNat)
    ∃ cal : Calibration,
      exec (.calibrationAreaRead bytes) s =
        .next { s with loadPhase := .retiredList, calibration := cal, calDefault := !good } ∧
      (∀ (n : Fin 1024) (k : Colour), (cal.cells.get n).get k = if good then value (3 * n.val + k.index) else 512) ∧
      ∀ (n : Fin 256) (k : Colour),
        (cal.sites.get n).get k = if good then value (3072 + 3 * n.val + k.index) else 512

/-- The retired list: each first good live slot retires its cell as a STORED entry in slot order, a later slot for the same cell is a duplicate to be voided, kept in slot order, and the slot map follows the slots (R60, R174). A slot reads empty at 0xFF, void at 0x00, live at 0xA5 with a good check over the 16 bits of cell, origin and closing bits, its cell index the first 10 of them, and broken otherwise (R169). -/
def Obligations.RetiredListTaken : Prop :=
  (∀ (bytes : Tbl 512 Byte) (slot : Fin 128),
    let byte (i : Nat) : Byte := bytes.data.getD (4 * slot.val + i) 0
    let good : Prop := crc8 (bitsOfBytes [byte 1, byte 2]) = byte 3
    (slotAsRead bytes slot = .empty ↔ byte 0 = 0xFF#8) ∧
    (slotAsRead bytes slot = .void ↔ byte 0 = 0x00#8) ∧
    (∀ c : Cell, slotAsRead bytes slot = .live c ↔
      byte 0 = 0xA5#8 ∧ good ∧ 32 * c.y.val + c.x.val = (256 * (byte 1).toNat + (byte 2).toNat) / 64) ∧
    (slotAsRead bytes slot = .broken ↔
      byte 0 ≠ 0xFF#8 ∧ byte 0 ≠ 0x00#8 ∧ ¬ (byte 0 = 0xA5#8 ∧ good))) ∧
  ∀ (bytes : Tbl 512 Byte) (s : State),
    s.mode = .loading → s.loadPhase = .retiredList → s.entries = [] →
    let later (slot : Fin 128) (c : Cell) : Bool :=
      (List.finRange 128).any fun lower => decide (lower < slot ∧ slotAsRead bytes lower = .live c)
    let first : List Cell := (List.finRange 128).filterMap fun slot =>
      match slotAsRead bytes slot with
      | .live c => if later slot c then none else some c
      | _ => none
    ∃ t, exec (.retiredListRead bytes) s = .next t ∧
      t = { s with
        loadPhase := .complete, cells := t.cells, entries := t.entries
        store := { s.store with slots := t.store.slots, duplicates := t.store.duplicates } } ∧
      t.entries = first.map (fun c => ⟨c, .stored, .retired none 0 true⟩) ∧
      (∀ c, t.cell c = if c ∈ first then (s.cell c).turned .retired else s.cell c) ∧
      t.store.duplicates = s.store.duplicates ++ (List.finRange 128).filter (fun slot =>
        match slotAsRead bytes slot with
        | .live c => later slot c
        | _ => false) ∧
      ∀ slot, match slotAsRead bytes slot with
        | .empty => t.store.slots.get slot = .empty
        | .void => t.store.slots.get slot = .void
        | .broken => t.store.slots.get slot = .void
        | .live c =>
          if later slot c then t.store.slots.get slot = .void ∧ slot ∈ t.store.duplicates
          else t.store.slots.get slot = .live c

/-- Entry to RUN does the steps of R175 in their order: sites ABSENT or not and unproven, neighbours UNHEARD, ports READY, a remedy for every stored cell in ascending position, the filled edge sets, supply, first pass, the voids of duplicate slots in slot order as far as the list has room (STORE_FULL beyond it: log entry 14), the refresh.
One entry per cell is the invariant of StepKeepsTableSound, entries without a remedy that of StepKeepsOwnSpares. -/
def Obligations.EntryToRun : Prop :=
  ∀ s : State, s.mode = .loading → s.loadPhase = .complete →
    (s.entries.map Entry.cell).Nodup → (∀ e ∈ s.entries, e.remedy = none) →
    let absent (site : Site) : Prop := ∃ k, (s.calibration.sites.get site.index).get k = 0
    let first (site : Site) (c : Cell) : Prop :=
      ∃ older e newer, s.entries = older ++ e :: newer ∧ e.isRetired = true ∧ e.cell = c ∧ c.home = .own site ∧
        ∀ x ∈ older, x.isRetired = true → x.cell.home ≠ .own site
    let room := 8 - s.store.pendingWrites.length
    let ready (port : Port) : Port := if s.position.invalid then port else { port with state := .ready }
    ∃ u : State,
      u = { s with
        mode := .run, entries := u.entries, sites := u.sites
        seam := { s.seam with neighbours := u.seam.neighbours, filledEdges := u.seam.filledEdges }
        ports := ⟨ready s.ports.a, ready s.ports.b⟩
        supply := { s.supply with
          state := if s.supply.input then .good else .low, countdown := s.cfg.settleFrames }
        probe := { Probe.cleared with stallTimer := some 0 }
        flags := { s.flags with storeFull := s.flags.storeFull || decide (room < s.store.duplicates.length) }
        store := { s.store with
          pendingWrites := s.store.pendingWrites ++ (s.store.duplicates.take room).map PendingWrite.void
          duplicates := [] } } ∧
      (∀ d, u.neighbour d = (s.position.neighbour s.cfg d).map fun p => ⟨p, .unheard, none⟩) ∧
      (∀ site, (absent site → u.site site = ⟨.absent, false, 0, .never⟩) ∧
        (¬ absent site → (∀ c, first site c → u.site site = ⟨.own c, false, 0, .never⟩) ∧
          ((∀ c, ¬ first site c) → u.site site = ⟨.free, false, 0, .never⟩))) ∧
      (∀ c, (s.retiredEntry c).isSome →
        (∀ site, c.home = .own site →
          (absent site → u.remedyOf c = some (.fill .siteAbsent)) ∧
          (¬ absent site → first site c → u.remedyOf c = some (.ownSpare site)) ∧
          (¬ absent site → ¬ first site c → u.remedyOf c = some (.fill .quadBusy))) ∧
        ∀ owner site, c.home = .foreign owner site →
          u.remedyOf c = some (.fill (if s.position.neighbour s.cfg owner.toDir = none then .noNeighbour
            else if s.cfg.lending = false then .lendingOff else .ownerSilent))) ∧
      u.entries = s.entries.map (fun e =>
        match u.remedyOf e.cell with
        | some r => e.withRemedy r
        | none => e) ∧
      (∀ edge p, (u.seam.filledEdges.get edge).get p =
        ((s.seam.filledEdges.get edge).get p || u.isFilledCell (edge.cell p))) ∧
      exec .enterRun s = .next { u.listsSent with seam := { u.seam with refreshTimer := some 0 } }

/-- In RUN no command but power and the reset line changes the mode, the position, the configuration, the calibration or their indications (R14, R168, R171). -/
def Obligations.ConfigurationHoldsInRun : Prop :=
  ∀ (c : Instr) (s : State), s.mode = .run → restartsPart c = false →
    ∃ t, exec c s = .next t ∧ t.mode = .run ∧ t.position = s.position ∧ t.cfg = s.cfg ∧
      t.configDefault = s.configDefault ∧ t.calibration = s.calibration ∧ t.calDefault = s.calDefault

/-! ## Video, rendering and the drive port -/

/-- Codes are collected after a frame-begin marker, and discarded outside a window or while the reset line is held (R99). -/
def Obligations.VideoCodesCollected : Prop :=
  ∀ (code : Code) (s : State),
    (s.mode = .held → exec .frameBeginMarker s = .next s ∧ exec (.videoCode code) s = .next s) ∧
    (s.mode ≠ .held →
      exec .frameBeginMarker s = .next { s with intake := { s.intake with receiving := some [] } }) ∧
    (s.intake.receiving = none → exec (.videoCode code) s = .next s) ∧
    (∀ codes, s.mode ≠ .held → s.intake.receiving = some codes → codes.length < 3467 →
      exec (.videoCode code) s =
        .next { s with intake := { s.intake with receiving := some (code :: codes) } })

/-- The code that completes a window in RUN raises the frame start: the plan (R17), the clean mark (R21), the countdown (R176), the intake (R100), the snapshot and the frame rendered from it (R106 to R112), sent or waiting (R105). -/
def Obligations.FrameStartInRun : Prop :=
  ∀ (code : Code) (codes : List Code) (s : State),
    s.mode = .run → s.intake.receiving = some codes → codes.length = 3467 →
    ∃ (w : Tbl 3468 Code) (plan : ProbePlan) (f : DriveFrame),
      let vi : Intake := ⟨w, none, .receiving, some 0⟩
      w.data = (code :: codes).reverse ∧
      plan.number = s.probe.nextPlan ∧ plan.chipOn = decide (s.probe.chip % 2 = 1) ∧
      plan.probeCode = s.cfg.probeCode ∧
      (∀ y, (plan.cellColumns.get y).val = (y.val + s.probe.p.val) % 32) ∧
      (∀ j, (plan.siteColumns.get j).val = (j.val + s.probe.q.val) % 16) ∧
      plan.gains = s.probe.gain ∧
      f.plan = some plan ∧
      (∀ (c : Cell) (k : Colour), (f.cells.get c.index).get k =
        match s.entryOf c with
        | none => min 65535 (vi.code c.ext k + s.fillFor vi c k)
        | some e =>
          match e.body with
          | .dim gains => min 65535 (vi.code c.ext k * gains.get k / 4096 + s.fillFor vi c k)
          | .retired .. => 0) ∧
      (∀ (site : Site) (k : Colour), (f.sites.get site.index).get k =
        match (s.site site).state with
        | .own c => vi.code c.ext k
        | .lent d c => vi.code (c.seenFrom d.toDir) k
        | _ => 0) ∧
      exec (.videoCode code) s = .next { s with
        intake := vi
        probe := { s.probe with
          plan := some plan, nextPlan := s.probe.nextPlan + 1
          clean := decide (s.supply.state = .good ∧ s.supply.countdown = 0) }
        supply := { s.supply with
          countdown := if s.supply.state = .good then s.supply.countdown - 1 else s.supply.countdown }
        render := { s.render with
          snapshot := s.snapshot
          sending := if s.render.sending = none then some (.rendered, f) else s.render.sending
          waiting := if s.render.sending = none then s.render.waiting else some f } }

/-- The code that completes a window in LOADING raises a frame start that renders plain, without plan and snapshot (R99, R100, R113). -/
def Obligations.PlainFrameInLoading : Prop :=
  ∀ (code : Code) (codes : List Code) (s : State),
    s.mode = .loading → s.intake.receiving = some codes → codes.length = 3467 →
    ∃ (w : Tbl 3468 Code) (f : DriveFrame),
      let vi : Intake := ⟨w, none, .receiving, some 0⟩
      w.data = (code :: codes).reverse ∧ f.plan = none ∧
      (∀ (c : Cell) (k : Colour), (f.cells.get c.index).get k = vi.code c.ext k) ∧
      (∀ n k, (f.sites.get n).get k = 0) ∧
      exec (.videoCode code) s = .next { s with
        intake := vi
        render := { s.render with
          sending := if s.render.sending = none then some (.rendered, f) else s.render.sending
          waiting := if s.render.sending = none then s.render.waiting else some f } }

/-- The drive port and the loss hold: a frame sent becomes the last drive frame when it was rendered and the waiting one follows (R105); the intake goes LOST and DARK, and re-emits or darkens an idle port (R100 to R102). -/
def Obligations.DrivePortAndLossHold : Prop :=
  ∀ s : State,
    let reEmit : Render := { s.render with
      sending := if s.render.sending = none then some (.reEmitted, { s.render.last with plan := none })
        else s.render.sending }
    let darken : Render := { s.render with
      sending := if s.render.sending = none then some (.dark, DriveFrame.zeros) else s.render.sending }
    (s.render.sending = none → exec .driveFrameSent s = .next s) ∧
    (∀ kind f, s.render.sending = some (kind, f) →
      exec .driveFrameSent s = .next { s with render := { s.render with
        last := if kind = .rendered then f else s.render.last
        sending := s.render.waiting.map fun w => (.rendered, w)
        waiting := none } }) ∧
    (s.intake.state = .receiving →
      exec .lossTimerLost s = .next { s with
        intake := { s.intake with state := .lost, lossTimer := some 0 }
        render := reEmit, flags := { s.flags with videoLostSeen := true } } ∧
      exec .lossTimerDark s = .next s ∧ exec .reEmitTick s = .next s ∧ exec .darkFrameTick s = .next s) ∧
    (s.intake.state = .lost →
      exec .lossTimerDark s = .next { s with
        intake := { s.intake with state := .dark, lossTimer := none }, render := darken } ∧
      exec .reEmitTick s = .next { s with render := reEmit } ∧
      exec .lossTimerLost s = .next s ∧ exec .darkFrameTick s = .next s) ∧
    (s.intake.state = .dark →
      exec .darkFrameTick s = .next (if s.mode = .held then s else { s with render := darken }) ∧
      exec .lossTimerLost s = .next s ∧ exec .lossTimerDark s = .next s ∧ exec .reEmitTick s = .next s)

/-! ## The Probe Engine and the Supply Monitor -/

/-- The chip sequence: its step, its 63 distinct states from 1 back to 1, 32 of them odd (R19). -/
def Obligations.ChipSequence : Prop :=
  (∀ chip : Nat, chip % 2 = 1 → nextChip chip = (chip / 2) ^^^ 48) ∧
    (∀ chip : Nat, chip % 2 = 0 → nextChip chip = chip / 2) ∧
    (∀ v, 1 ≤ v → v ≤ 63 → ∃ n, n < 63 ∧ chipAfter n = v) ∧
    chipAfter 62 = 2 ∧ chipAfter 63 = 1 ∧ onAmong 63 = 32

/-- A sense report is discarded unless it is complete and of the frame in progress (R20); taken, it is counted when the clean mark is set (R22). -/
def Obligations.SenseReportCounted : Prop :=
  ∀ (number : Fin 256) (samples : List Sample) (s : State),
    let sample (i : Fin 144) : Nat := (samples.getD i.val 0).val
    (¬ (s.mode = .run ∧ samples.length = 144 ∧ ∃ plan, s.probe.plan = some plan ∧ plan.number = number) →
      exec (.senseReport number samples) s = .next s) ∧
    ∀ plan, s.mode = .run → samples.length = 144 → s.probe.plan = some plan → plan.number = number →
      (s.probe.clean = false →
        exec (.senseReport number samples) s = .next { s with probe := { s.probe with plan := none } }) ∧
      (s.probe.clean = true → s.probe.n ≠ 62 →
        ∃ pe : Probe, exec (.senseReport number samples) s = .next { s with probe := pe } ∧
          pe = { s.probe with
            plan := none, stallTimer := some 0, n := s.probe.n + 1
            chip := if s.probe.chip % 2 = 1 then (s.probe.chip / 2) ^^^ 48 else s.probe.chip / 2
            onCount := s.probe.onCount + plan.chipOn.toNat
            offCount := s.probe.offCount + (!plan.chipOn).toNat
            onSum := pe.onSum, offSum := pe.offSum, sat := pe.sat } ∧
          ∀ i, pe.onSum.get i = s.probe.onSum.get i + (if plan.chipOn then sample i else 0) ∧
            pe.offSum.get i = s.probe.offSum.get i + (if plan.chipOn then 0 else sample i) ∧
            pe.sat.get i = (s.probe.sat.get i || plan.chipOn && decide (sample i = 4095)))

/-- The 63rd counted frame ends the pass: verdicts and sweep end handed on, marks, gains and SENSE_CEILING, and the pass advance (R24, R27, R28, R29, R33, R35, R36). A site's verdict: NONE when it is ABSENT, otherwise the combination of its colours (R32; that an ABSENT site's other colours count for nothing is log entry 25). -/
def Obligations.PassEnd : Prop :=
  ∀ (plan : ProbePlan) (samples : List Sample) (s : State),
    s.mode = .run → samples.length = 144 → s.probe.plan = some plan → s.probe.clean = true → s.probe.n = 62 →
    let pe := s.probe.counted plan.chipOn samples
    ∃ t, exec (.senseReport plan.number samples) s = .next t ∧
      t = { s with
        probe := t.probe
        handed := { s.handed with
          cellVerdicts := s.handed.cellVerdicts ++
            (List.finRange 32).map (cellVerdictOf s.cfg s.calibration pe)
          siteVerdicts := s.handed.siteVerdicts ++
            (List.finRange 16).map (siteVerdictOf s.cfg s.calibration pe)
          sweepEnds := if s.probe.p = 31 then s.handed.sweepEnds + 1 else s.handed.sweepEnds }
        flags := { s.flags with
          senseCeiling := s.flags.senseCeiling ||
            (List.finRange 144).any fun i => pe.sat.get i && decide (pe.gain.get i = 0) } } ∧
      t.probe = { pe with
        chip := 1, n := 0, onCount := 0, offCount := 0
        onSum := Tbl.fill 144 0, offSum := Tbl.fill 144 0, sat := Tbl.fill 144 false
        stallTimer := some 0, leak := t.probe.leak, gain := t.probe.gain
        p := s.probe.p + 1
        q := match s.probe.overrides with
          | [] => s.probe.q + 1
          | d :: _ => d
        overrides := s.probe.overrides.tail
        sweepCount := if s.probe.p = 31 then (s.probe.sweepCount + 1) % 16777216 else s.probe.sweepCount } ∧
      (∀ i, t.probe.leak.get i = decide (31 * s.cfg.lLeak * 2 ^ pe.gain.get i < pe.offSum.get i) ∧
        t.probe.gain.get i =
          if pe.sat.get i then pe.gain.get i - 1
          else if pe.onSum.get i < 32768 ∧ pe.gain.get i < 3 then pe.gain.get i + 1
          else pe.gain.get i) ∧
      ∀ j : Fin 16,
        let result (k : Colour) : PairResult := pairResult s.cfg s.calibration pe (pairOf (spareRow j) k)
        let v := siteVerdictOf s.cfg s.calibration pe j
        let value (k : Colour) : Nat := (s.calibration.sites.get v.site.index).get k
        v.site = diagonalSite pe.q j ∧
        ((∃ k, value k = 0) → v.verdict = .none) ∧
        ((∀ k, value k ≠ 0) →
          ((∃ k, result k = .fault) → v.verdict = .fault) ∧
          ((∀ k, result k ≠ .fault) → (∃ k, result k = .none) → v.verdict = .none) ∧
          ((∀ k, result k = .weak ∨ result k = .healthy) → (∃ k, result k = .weak) → v.verdict = .weak) ∧
          ((∀ k, result k = .healthy) → v.verdict = .healthy))

/-- The result of one sense row and colour: NONE, or the comparison of 16·D with the dead, hot and weak bounds (R25, R26). -/
def Obligations.ResultOfRowAndColour : Prop :=
  ∀ (cfg : Configuration) (cal : Calibration) (pe : Probe) (k : Colour),
    let result (i : Fin 144) (e : Nat) : PairResult :=
      let eg := e * 2 ^ pe.gain.get i
      let d : Int := (pe.offCount : Int) * (pe.onSum.get i : Int) - (pe.onCount : Int) * (pe.offSum.get i : Int)
      if e = 0 then .none
      else if pe.sat.get i = true then .none
      else if pe.offSum.get i > 31 * cfg.lLeak * 2 ^ pe.gain.get i then .none
      else if 16 * d < ((cfg.tDead * eg * 992 : Nat) : Int) then .fault
      else if 16 * d > ((cfg.tHot * eg * 992 : Nat) : Int) then .fault
      else if 16 * d < ((cfg.tWeak * eg * 992 : Nat) : Int) then .weak
      else .healthy
    (∀ y : Fin 32,
      let c : Cell := ⟨⟨(y.val + pe.p.val) % 32, by omega⟩, y⟩
      pairResult cfg cal pe (pairOf (cellRow y) k)
        = result (pairOf (cellRow y) k) ((cal.cells.get c.index).get k)) ∧
    ∀ j : Fin 16,
      let site : Site := ⟨⟨(j.val + pe.q.val) % 16, by omega⟩, j⟩
      pairResult cfg cal pe (pairOf (spareRow j) k)
        = result (pairOf (spareRow j) k) ((cal.sites.get site.index).get k)

/-- A cell's verdict combines the results of its three colours, FAULT before NONE before WEAK before HEALTHY (R30); a WEAK one carries its gains (R31), every one its responses and sweep (R24, R35). A site's verdict is stated at the pass end. -/
def Obligations.VerdictsCombineColours : Prop :=
  ∀ (cfg : Configuration) (cal : Calibration) (pe : Probe),
    ∀ y : Fin 32,
      let i (k : Colour) : Fin 144 := pairOf (cellRow y) k
      let result (k : Colour) : PairResult := pairResult cfg cal pe (i k)
      let d (k : Colour) : Int :=
        (pe.offCount : Int) * (pe.onSum.get (i k) : Int) - (pe.onCount : Int) * (pe.offSum.get (i k) : Int)
      let v := cellVerdictOf cfg cal pe y
      v.cell = diagonalCell pe.p y ∧ v.sweep = pe.sweepCount ∧ (∀ k, v.responses.get k = d k / 992) ∧
      ((∃ k, result k = .fault) → v.judgement = .fault) ∧
      ((∀ k, result k ≠ .fault) → (∃ k, result k = .none) → v.judgement = .none) ∧
      ((∀ k, result k = .healthy) → v.judgement = .healthy) ∧
      ((∀ k, result k = .weak ∨ result k = .healthy) → (∃ k, result k = .weak) →
        ∃ gains, v.judgement = .weak gains ∧ ∀ k, gains.get k =
          if result k = .weak then
            (((4063232 * ((cal.cells.get v.cell.index).get k * 2 ^ pe.gain.get (i k)) : Nat) : Int) / d k).toNat
          else 4096)

/-- The stall timer aborts the pass and keeps the diagonals, the override list and the gain levels (R37, R38); a request appends a diagonal to the override list unless it is listed or the list is full (R34); the supply-good input in RUN falls to LOW with SUPPLY_DIP and the clean mark cleared, or rises to GOOD with the countdown set, and outside RUN only the pin moves (R21, R176). A timer that does not run, and no request, change nothing (log entry 8). -/
def Obligations.StallOverrideAndSupply : Prop :=
  ∀ s : State,
    (s.probe.stallTimer = none → exec .stallTimerExpiry s = .next s) ∧
    (∀ n, s.probe.stallTimer = some n →
      exec .stallTimerExpiry s = .next { s with probe := { s.probe with
        chip := 1, n := 0, onCount := 0, offCount := 0
        onSum := Tbl.fill 144 0, offSum := Tbl.fill 144 0, sat := Tbl.fill 144 false
        plan := none, stallTimer := some 0 } }) ∧
    (s.handed.appendRequests = [] → exec .overrideAppend s = .next s) ∧
    (∀ d rest, s.handed.appendRequests = d :: rest →
      exec .overrideAppend s = .next { s with
        handed := { s.handed with appendRequests := rest }
        probe := { s.probe with
          overrides := if d ∈ s.probe.overrides ∨ 4 ≤ s.probe.overrides.length then s.probe.overrides
            else s.probe.overrides ++ [d] } }) ∧
    (s.mode = .run →
      exec .supplyLow s = .next { s with
        supply := ⟨false, .low, s.supply.countdown⟩, probe := { s.probe with clean := false }
        flags := { s.flags with supplyDip := true } } ∧
      exec .supplyHigh s = .next { s with supply := ⟨true, .good, s.cfg.settleFrames⟩ }) ∧
    (s.mode ≠ .run →
      exec .supplyLow s = .next { s with supply := { s.supply with input := false } } ∧
      exec .supplyHigh s = .next { s with supply := { s.supply with input := true } })

/-! ## Verdicts on cells -/

/-- A verdict that brings no run to its depth: recorded (R43), and the runs and conditions of R48 to R51; a RETIRED cell's is only recorded, and with no verdict handed on nothing changes. -/
def Obligations.VerdictBelowDepth : Prop :=
  ∀ s : State,
    (s.handed.cellVerdicts = [] → exec .cellVerdict s = .next s) ∧
    ∀ v rest, s.handed.cellVerdicts = v :: rest →
      let u : State := { s with handed := { s.handed with cellVerdicts := rest } }
      let r := s.cell v.cell
      let answers (t : State) : Prop := exec .cellVerdict s = .next t
      (v.judgement = .none → answers (u.setCell v.cell (r.seen v .none))) ∧
      (r.condition = .retired →
        (v.judgement = .healthy → answers (u.setCell v.cell (r.seen v .healthy))) ∧
        (v.takenAsFault s.cfg.gMax → answers (u.setCell v.cell (r.seen v .fault))) ∧
        (∀ gains, v.takenAsWeak s.cfg.gMax gains → answers (u.setCell v.cell (r.seen v .weak)))) ∧
      (r.condition = .good →
        (v.judgement = .healthy → answers (u.setCell v.cell ((r.seen v .healthy).turned .good))) ∧
        (v.takenAsFault s.cfg.gMax → s.cfg.k ≠ 1 → answers (u.setCell v.cell
          { r.seen v .fault with condition := .suspect, faultRun := 1, weakRun := 0 })) ∧
        (∀ gains, v.takenAsWeak s.cfg.gMax gains → r.weakRun + 1 < s.cfg.kDim → answers (u.setCell v.cell
          { r.seen v .weak with weakRun := r.weakRun + 1 }))) ∧
      (r.condition = .suspect →
        (v.judgement = .healthy → answers (u.setCell v.cell ((r.seen v .healthy).turned .good))) ∧
        (v.takenAsFault s.cfg.gMax → r.faultRun + 1 < s.cfg.k → answers (u.setCell v.cell
          { r.seen v .fault with faultRun := r.faultRun + 1 })) ∧
        (∀ gains, v.takenAsWeak s.cfg.gMax gains → s.cfg.kDim ≠ 1 → answers (u.setCell v.cell
          { r.seen v .weak with condition := .good, faultRun := 0, weakRun := 1 }))) ∧
      (r.condition = .dim →
        (v.judgement = .healthy → r.healthyRun + 1 < s.cfg.kDim → answers (u.setCell v.cell
          { r.seen v .healthy with healthyRun := r.healthyRun + 1, faultRun := 0 })) ∧
        (v.takenAsFault s.cfg.gMax → r.faultRun + 1 < s.cfg.k → answers (u.setCell v.cell
          { r.seen v .fault with faultRun := r.faultRun + 1, healthyRun := 0 })) ∧
        (∀ gains, v.takenAsWeak s.cfg.gMax gains → answers
          (({ u with entries := changeEntry v.cell (fun e => e.withGains gains) s.entries }).setCell v.cell
            { r.seen v .weak with faultRun := 0, healthyRun := 0 })))

/-- A weak run at its depth admits the cell as DIM or is refused with TABLE_FULL (R53, R66); a healthy run at its depth removes the DIM entry (R50, R70). -/
def Obligations.DimAdmittedAndRecovered : Prop :=
  ∀ (s : State) (v : CellVerdict) (rest : List CellVerdict), s.handed.cellVerdicts = v :: rest →
    let u : State := { s with handed := { s.handed with cellVerdicts := rest } }
    let r := s.cell v.cell
    (∀ gains, v.takenAsWeak s.cfg.gMax gains →
      (r.condition = .good ∧ s.cfg.kDim ≤ r.weakRun + 1 ∨ r.condition = .suspect ∧ s.cfg.kDim = 1) →
      (s.entries.length < 128 → exec .cellVerdict s = .next
        ((u.setEntries (s.entries ++ [⟨v.cell, .detected, .dim gains⟩])).setCell v.cell
          ((r.seen v .weak).turned .dim))) ∧
      (128 ≤ s.entries.length → exec .cellVerdict s = .next
        { u.setCell v.cell { (r.seen v .weak).turned .good with weakRun := s.cfg.kDim } with
          flags := { s.flags with tableFull := true } })) ∧
    (v.judgement = .healthy → r.condition = .dim → s.cfg.kDim ≤ r.healthyRun + 1 →
      ∀ e, s.entryOf v.cell = some e → e.isRetired = false → exec .cellVerdict s = .next
        (({ u with entries := removeCell v.cell s.entries }).setCell v.cell
          ((r.seen v .healthy).turned .good)))

/-- A fault run at its depth retires the cell: into a free place as the newest entry (R52, R67), or by conversion of its DIM entry in place (R50, R68); the remedy is chosen and the append queued in the same operation. -/
def Obligations.ConfirmedFaultRetires : Prop :=
  ∀ (s : State) (v : CellVerdict) (rest : List CellVerdict), s.handed.cellVerdicts = v :: rest →
    v.takenAsFault s.cfg.gMax →
    let u : State := { s with handed := { s.handed with cellVerdicts := rest } }
    let r := s.cell v.cell
    ((r.condition = .good ∧ s.cfg.k = 1 ∨ r.condition = .suspect ∧ s.cfg.k ≤ r.faultRun + 1) →
      s.entries.length < 128 → exec .cellVerdict s = .next
        ((storeAppend v.cell .detected (chooseRemedy true v.cell
          { u with entries := s.entries ++ [⟨v.cell, .detected, .retired none v.sweep false⟩] })).setCell v.cell
            ((r.seen v .fault).turned .retired))) ∧
    (r.condition = .dim → s.cfg.k ≤ r.faultRun + 1 →
      ∀ e, s.entryOf v.cell = some e → e.isRetired = false → exec .cellVerdict s = .next
        ((storeAppend v.cell .detected (chooseRemedy true v.cell
          { u with entries := s.entries.map fun e =>
              if e.cell = v.cell ∧ e.isRetired = false then ⟨e.cell, .detected, .retired none v.sweep false⟩
              else e })).setCell v.cell ((r.seen v .fault).turned .retired)))

/-- A full table: a confirmed fault evicts the oldest DIM entry, whose cell becomes GOOD, or with none is refused, held SUSPECT with TABLE_FULL (R52, R54, R67). -/
def Obligations.FullTable : Prop :=
  ∀ (s : State) (v : CellVerdict) (rest : List CellVerdict), s.handed.cellVerdicts = v :: rest →
    v.takenAsFault s.cfg.gMax → 128 ≤ s.entries.length →
    let u : State := { s with handed := { s.handed with cellVerdicts := rest } }
    let r := s.cell v.cell
    (r.condition = .good ∧ s.cfg.k = 1 ∨ r.condition = .suspect ∧ s.cfg.k ≤ r.faultRun + 1) →
    ((∀ e ∈ s.entries, e.isRetired = true) → exec .cellVerdict s = .next
      { u.setCell v.cell { (r.seen v .fault).turned .suspect with faultRun := s.cfg.k } with
        flags := { s.flags with tableFull := true } }) ∧
    ∀ older e newer, s.entries = older ++ e :: newer → (∀ x ∈ older, x.isRetired = true) → e.isRetired = false →
      e.cell ≠ v.cell → exec .cellVerdict s = .next
        (((storeAppend v.cell .detected (chooseRemedy true v.cell
          { u with entries := removeCell e.cell s.entries ++
              [⟨v.cell, .detected, .retired none v.sweep false⟩] })).setCell v.cell
            ((r.seen v .fault).turned .retired)).setCell e.cell ((s.cell e.cell).turned .good))

/-- The choice of a RETIRED entry's remedy from the home site, for an entry that is filled before it or not: a FREE own site is taken, any other gives a FILL reason (R73); for a foreign one the tests of R74, ASKING with a CLAIM of attempt 1; a change of the filled edge cells is told (R76), with no list of its own while the part enters RUN or restarts (R146). That the CLAIM is handed on before the FILL_LISTs is the model's reading (log entry 12).
Choices made together, and re-claims, go in ascending entry position, each for an entry whose remedy still calls for it when its turn comes (R72, R79, R127). -/
def Obligations.RemedyChosen : Prop :=
  (∀ (announce : Bool) (c : Cell) (s : State), s.retiredEntry c = none → chooseRemedy announce c s = s) ∧
  (∀ (announce : Bool) (c : Cell) (e : Entry) (s : State), s.retiredEntry c = some e →
    let given (r : Remedy) (t : State) : State := (t.writeRemedy c r).told announce c e.isFilled r.isFilled
    (∀ site, c.home = .own site →
      ((s.site site).state = .free →
        chooseRemedy announce c s = given (.ownSpare site) (s.setSiteState site (.own c))) ∧
      ((s.site site).state = .absent → chooseRemedy announce c s = given (.fill .siteAbsent) s) ∧
      ((s.site site).state = .faulty → chooseRemedy announce c s = given (.fill .siteFaulty) s) ∧
      ((∃ c', (s.site site).state = .own c') ∨ (∃ d c', (s.site site).state = .lent d c') ∨
          (∃ d c' n, (s.site site).state = .held d c' n) →
        chooseRemedy announce c s = given (.fill .quadBusy) s)) ∧
    ∀ owner site, c.home = .foreign owner site →
      (s.neighbour owner.toDir = none → chooseRemedy announce c s = given (.fill .noNeighbour) s) ∧
      ∀ nb, s.neighbour owner.toDir = some nb →
        (s.cfg.lending = false → chooseRemedy announce c s = given (.fill .lendingOff) s) ∧
        (s.cfg.lending = true → nb.presence ≠ .present →
          chooseRemedy announce c s = given (.fill .ownerSilent) s) ∧
        (s.cfg.lending = true → nb.presence = .present →
          chooseRemedy announce c s =
            (sendTo owner.toDir (.claim c site 0) (s.writeRemedy c (.asking owner site 1 0))).told announce c
              e.isFilled true)) ∧
  ∀ (announce : Bool) (calls : Cell → Remedy → Bool) (s : State),
    rechooseAll announce calls s = (s.entries.map Entry.cell).foldl (fun t c =>
      match t.remedyOf c with
      | some r => if calls c r then chooseRemedy announce c t else t
      | none => t) s

/-! ## Verdicts on sites, sweep ends and the timers of the seam -/

/-- A site verdict is recorded; HEALTHY and WEAK prove a usable site, FAULT below K disproves it (R82); at K the site becomes FAULTY, the cell it served is filled, the borrower it was lent to is sent a REVOKE (R83). With none handed on nothing changes. -/
def Obligations.SiteVerdictTaken : Prop :=
  ∀ s : State,
    (s.handed.siteVerdicts = [] → exec .siteVerdict s = .next s) ∧
    ∀ (v : SiteVerdict) (rest : List SiteVerdict), s.handed.siteVerdicts = v :: rest →
      let u : State := { s with handed := { s.handed with siteVerdicts := rest } }
      let r := s.site v.site
      let answers (t : State) : Prop := exec .siteVerdict s = .next t
      let failed : State := u.setSite v.site ⟨.faulty, false, s.cfg.k, .fault⟩
      (r.state = .absent ∨ r.state = .faulty →
        (v.verdict = .healthy → answers (u.setSite v.site { r with lastVerdict := .healthy })) ∧
        (v.verdict = .weak → answers (u.setSite v.site { r with lastVerdict := .weak })) ∧
        (v.verdict = .fault → answers (u.setSite v.site { r with lastVerdict := .fault }))) ∧
      (v.verdict = .none → answers (u.setSite v.site { r with lastVerdict := .none })) ∧
      (r.state ≠ .absent → r.state ≠ .faulty →
        (v.verdict = .healthy →
          answers (u.setSite v.site { r with lastVerdict := .healthy, proven := true, faultRun := 0 })) ∧
        (v.verdict = .weak →
          answers (u.setSite v.site { r with lastVerdict := .weak, proven := true, faultRun := 0 })) ∧
        (v.verdict = .fault → r.faultRun + 1 < s.cfg.k →
          answers (u.setSite v.site
            { r with lastVerdict := .fault, proven := false, faultRun := r.faultRun + 1 }))) ∧
      (v.verdict = .fault → s.cfg.k ≤ r.faultRun + 1 →
        ((r.state = .free ∨ ∃ d c n, r.state = .held d c n) → answers failed) ∧
        (∀ c, r.state = .own c → s.remedyOf c = some (.ownSpare v.site) →
          answers ((failed.writeRemedy c (.fill .siteFaulty)).nowFilled c)) ∧
        ∀ d c, r.state = .lent d c → answers (sendTo d.toDir (.revoke v.site c) failed))

/-- A sweep end re-claims every foreign-home cell in FILL(NO_ANSWER) or FILL(REFUSED_IN_USE) by the tests of R74 and no other cell, one after another in ascending entry position, the CLAIMs handed on in that order (R127, R128).
One entry per cell is the invariant of StepKeepsTableSound. -/
def Obligations.SweepEndReclaims : Prop :=
  ∀ s : State,
    (s.handed.sweepEnds = 0 → exec .sweepEnd s = .next s) ∧
    (s.handed.sweepEnds ≠ 0 → ∃ t, exec .sweepEnd s = .next t ∧
      t = { s with
        handed := { s.handed with sweepEnds := s.handed.sweepEnds - 1 }
        entries := t.entries, sites := t.sites, ports := t.ports, flags := t.flags
        seam := { s.seam with filledEdges := t.seam.filledEdges } } ∧
      ∀ c, (s.remedyOf c = some (.fill .noAnswer) ∨ s.remedyOf c = some (.fill .refusedInUse) →
          ∀ owner site, c.home = .foreign owner site → t.remedyOf c = some (s.claimResult owner site)) ∧
        (s.remedyOf c ≠ some (.fill .noAnswer) → s.remedyOf c ≠ some (.fill .refusedInUse) →
          t.remedyOf c = s.remedyOf c)) ∧
    (s.handed.sweepEnds ≠ 0 → (s.entries.map Entry.cell).Nodup →
      let again : List Cell := (s.entries.filter fun e =>
        decide (e.remedy = some (.fill .noAnswer) ∨ e.remedy = some (.fill .refusedInUse))).map Entry.cell
      exec .sweepEnd s = .next (again.foldl State.reclaimed
        { s with handed := { s.handed with sweepEnds := s.handed.sweepEnds - 1 } }))

/-- The retry timer of a claim: the next attempt is sent, or after attempt 16 the remedy becomes FILL(NO_ANSWER) and nothing is sent (R117). -/
def Obligations.ClaimRetry : Prop :=
  ∀ (c : Cell) (s : State),
    (∀ owner site (n : Fin 16) timer, s.remedyOf c = some (.asking owner site n.val timer) →
      exec (.claimRetryExpiry c) s = .next
        (sendTo owner.toDir (.claim c site n) (s.writeRemedy c (.asking owner site (n.val + 1) 0)))) ∧
    (∀ owner site timer, s.remedyOf c = some (.asking owner site 16 timer) →
      exec (.claimRetryExpiry c) s = .next (s.writeRemedy c (.fill .noAnswer))) ∧
    ((∀ owner site n timer, s.remedyOf c ≠ some (.asking owner site n timer)) →
      exec (.claimRetryExpiry c) s = .next s)

/-- A hold whose time is up frees its site and offers it (R87, R90); a HOLD_LIST frees each site lent to its sender that it does not name, one after another in ascending site index, each offered as it is freed, and changes nothing else (R87, R93). -/
def Obligations.HoldsEnd : Prop :=
  (∀ (site : Site) (s : State),
    (∀ d c n, (s.site site).state = .held d c n → exec (.holdExpiry site) s = .next (s.offered site)) ∧
    ((∀ d c n, (s.site site).state ≠ .held d c n) → exec (.holdExpiry site) s = .next s)) ∧
  ∀ (s : State) (rx : Rx) (d : Dir) (pairs : List LoanPair), Takes s rx d → pairs.length ≤ 16 →
    let h := updatePresence rx.src s
    ∃ t, exec (.holdListReceived rx pairs) s = .next t ∧
      t = { h with
        entries := t.entries, sites := t.sites, ports := t.ports, flags := t.flags
        seam := { h.seam with filledEdges := t.seam.filledEdges } } ∧
      t = (h.sitesThat fun site state =>
        match state with
        | .lent b c => decide (b.toDir = d ∧ (⟨site, c⟩ : LoanPair) ∉ pairs)
        | _ => false).foldl State.offered h ∧
      (∀ site (b : BorrowerDir) c, (h.site site).state = .lent b c → b.toDir = d →
        (⟨site, c⟩ : LoanPair) ∉ pairs → (t.site site).state = .free ∨ ∃ c', (t.site site).state = .own c') ∧
      (∀ site (b : BorrowerDir) c, (h.site site).state = .lent b c → b.toDir = d →
        (⟨site, c⟩ : LoanPair) ∈ pairs → t.site site = h.site site) ∧
      ∀ site, (∀ (b : BorrowerDir) c, (h.site site).state = .lent b c → b.toDir ≠ d) → t.site site = h.site site

/-- A PRESENT neighbour whose quiet time reaches the limit becomes SILENT, and its fill records, the loans and holds made to it and the loans and claims made of it are withdrawn: each freed site is offered in ascending site index (R87, R94), then each LOAN and ASKING entry becomes FILL(OWNER_SILENT) in ascending position, a LOAN's cell joining the filled cells with its FILL_LISTs (R76, R133, R140, R141). -/
def Obligations.NeighbourGoesSilent : Prop :=
  ∀ (d : Dir) (s : State),
    ((∀ nb, s.neighbour d = some nb → nb.presence ≠ .present) → exec (.neighbourSilent d) s = .next s) ∧
    ∀ nb, s.neighbour d = some nb → nb.presence = .present → ∃ t, exec (.neighbourSilent d) s = .next t ∧
      (let silent := s.setNeighbour d (some ⟨nb.position, .silent, some (300 * s.cfg.tRef)⟩)
        let unrecorded : State := { silent with seam := { silent.seam with
          foreignFills := s.seam.foreignFills.filter fun r => decide (r.edge.toDir ≠ d) } }
        let freed := (s.sitesThat fun _ state => state.givenTo fun b => decide (b.toDir = d)).foldl
          State.offered unrecorded
        t = (s.entries.map Entry.cell).foldl
          (fun t c => t.ownerLost true (fun owner => decide (owner.toDir = d)) c) freed) ∧
      t = { s with entries := t.entries, sites := t.sites, seam := t.seam, ports := t.ports, flags := t.flags } ∧
      t.neighbour d = some ⟨nb.position, .silent, some (300 * s.cfg.tRef)⟩ ∧
      (∀ d', d' ≠ d → t.neighbour d' = s.neighbour d') ∧
      t.seam.refreshTimer = s.seam.refreshTimer ∧
      t.seam.foreignFills = s.seam.foreignFills.filter (fun r => decide (r.edge.toDir ≠ d)) ∧
      (∀ site (b : BorrowerDir) c n, b.toDir = d →
        (t.site site).state ≠ .lent b c ∧ (t.site site).state ≠ .held b c n) ∧
      (∀ site, (∀ (b : BorrowerDir) c n, b.toDir = d →
        (s.site site).state ≠ .lent b c ∧ (s.site site).state ≠ .held b c n) → t.site site = s.site site) ∧
      (∀ c (owner : OwnerDir), owner.toDir = d →
        (∃ site, s.remedyOf c = some (.loan owner site)) ∨
          (∃ site n timer, s.remedyOf c = some (.asking owner site n timer)) →
        t.remedyOf c = some (.fill .ownerSilent)) ∧
      ∀ c, s.remedyOf c ≠ some (.fill .quadBusy) →
        (∀ (owner : OwnerDir) site n timer, owner.toDir = d →
          s.remedyOf c ≠ some (.loan owner site) ∧ s.remedyOf c ≠ some (.asking owner site n timer)) →
        t.remedyOf c = s.remedyOf c

/-- A refresh hands on every list, direction by direction, N, E, S, W, NW, SE, and restarts the timer (R143, R144); a timer that does not run expires to no effect (log entry 8). -/
def Obligations.RefreshSendsLists : Prop :=
  ∀ s : State,
    (s.seam.refreshTimer = none → exec .refreshTimerExpiry s = .next s) ∧
    ∀ n, s.seam.refreshTimer = some n →
      let fill (edge : Edge) (t : State) : State := sendTo edge.toDir (.fillList edge (s.filledPositions edge)) t
      let loans (b : BorrowerDir) (t : State) : State := sendTo b.toDir (.loanList (s.loansTo b)) t
      let holds (owner : OwnerDir) (t : State) : State := sendTo owner.toDir (.holdList (s.loansFrom owner)) t
      let t := holds .se (loans .nw (loans .w (fill .w (holds .s (fill .s (holds .e (fill .e
        (loans .n (fill .n s)))))))))
      s.listsSent = t ∧
      exec .refreshTimerExpiry s = .next { t with seam := { s.seam with refreshTimer := some 0 } }

/-! ## The Link Ports -/

/-- An idle gap: a READY port with no attempt on the line tries its notice in transmission again, or takes the oldest answer, or else the oldest notice (R157, R159). -/
def Obligations.IdleGapAttempt : Prop :=
  ∀ (p : PortId) (s : State),
    (¬ ((s.port p).state = .ready ∧ (s.port p).attempt = none) → exec (.idleGapAttempt p) s = .next s) ∧
    ((s.port p).state = .ready → (s.port p).attempt = none →
      (∀ n, (s.port p).current = some n →
        exec (.idleGapAttempt p) s = .next (s.setPort p { s.port p with attempt := some (noticeBits n) })) ∧
      (∀ n rest, (s.port p).current = none → (s.port p).answers = n :: rest →
        exec (.idleGapAttempt p) s = .next (s.setPort p { s.port p with
          answers := rest, current := some n, attempt := some (noticeBits n), dropAfter := false
          failCount := 0 })) ∧
      (∀ n rest, (s.port p).current = none → (s.port p).answers = [] → (s.port p).notices = n :: rest →
        exec (.idleGapAttempt p) s = .next (s.setPort p { s.port p with
          notices := rest, current := some n, attempt := some (noticeBits n), dropAfter := false
          failCount := 0 })) ∧
      ((s.port p).current = none → (s.port p).answers = [] → (s.port p).notices = [] →
        exec (.idleGapAttempt p) s = .next s))

/-- An attempt ends: won, its notice has gone through; lost, it stays; failed, the fail count rises and the eighth failure drops it and makes the port QUIET (R157, R158). After a section restart it is dropped (R162). QUIET ends in READY. -/
def Obligations.AttemptEnds : Prop :=
  ∀ (p : PortId) (s : State),
    let port := s.port p
    let dropped : Port := { port with current := none, attempt := none, dropAfter := false, failCount := 0 }
    (port.attempt = none → exec (.attemptWon p) s = .next s ∧ exec (.contentionLost p) s = .next s ∧
      exec (.attemptFailed p) s = .next s) ∧
    (∀ bits, port.attempt = some bits →
      exec (.attemptWon p) s = .next (s.setPort p dropped) ∧
      (port.dropAfter = true →
        exec (.contentionLost p) s = .next (s.setPort p dropped) ∧
        exec (.attemptFailed p) s = .next (s.setPort p dropped)) ∧
      (port.dropAfter = false →
        exec (.contentionLost p) s = .next (s.setPort p { port with attempt := none }) ∧
        (port.failCount + 1 < 8 → exec (.attemptFailed p) s =
          .next (s.setPort p { port with attempt := none, failCount := port.failCount + 1 })) ∧
        (8 ≤ port.failCount + 1 → exec (.attemptFailed p) s =
          .next { s.setPort p { dropped with state := .quiet, quietTimer := some 0 } with
            flags := { s.flags with linkQuietSeen := true } }))) ∧
    (port.state = .quiet → exec (.quietTimerExpiry p) s =
      .next (s.setPort p { port with state := .ready, quietTimer := none })) ∧
    (port.state ≠ .quiet → exec (.quietTimerExpiry p) s = .next s)

/-- A notice handed on for a direction goes to that neighbour's position, on port A when the two positions share an A zone and on port B otherwise, and toward a NONE direction nothing goes (R9, R154). It joins the queue of its kind (R159), replaces a waiting list of its kind, for the same edge or for the same direction, in its place (R160), or is dropped with QUEUE_FULL (R161). -/
def Obligations.QueueDiscipline : Prop :=
  (∀ body : NoticeBody, isAnswer body = true ↔
    (∃ site c, body = .grant site c) ∨ (∃ site c reason, body = .refuse site c reason) ∨
      (∃ site c, body = .wait site c) ∨ ∃ tag kind bytes, body = .report tag kind bytes) ∧
  (∀ new old : Notice, replaces new old = true ↔
    (∃ edge positions positions', new.body = .fillList edge positions ∧ old.body = .fillList edge positions') ∨
      (∃ pairs pairs', new.body = .holdList pairs ∧ old.body = .holdList pairs' ∧ new.dst = old.dst) ∨
      ∃ pairs pairs', new.body = .loanList pairs ∧ old.body = .loanList pairs' ∧ new.dst = old.dst) ∧
  (∀ (d : Dir) (body : NoticeBody) (s : State),
    (s.neighbour d = none → sendTo d body s = s) ∧
    ∀ nb, s.neighbour d = some nb →
      let n : Notice := ⟨s.position, nb.position, body⟩
      let shareA : Prop := s.position.col.val / 16 = nb.position.col.val / 16 ∧
        s.position.row.val / 16 = nb.position.row.val / 16
      (shareA → sendTo d body s = enqueue .a n s) ∧ (¬ shareA → sendTo d body s = enqueue .b n s)) ∧
  ∀ (p : PortId) (n : Notice) (s : State),
    let port := s.port p
    let full : State := { s with flags := { s.flags with queueFull := true } }
    (isAnswer n.body = true →
      (port.answers.length < 4 → enqueue p n s = s.setPort p { port with answers := port.answers ++ [n] }) ∧
      (4 ≤ port.answers.length → enqueue p n s = full)) ∧
    (isAnswer n.body = false →
      (∀ ahead old behind, port.notices = ahead ++ old :: behind → replaces n old = true →
        (∀ x ∈ ahead, replaces n x = false) →
        enqueue p n s = s.setPort p { port with notices := ahead ++ n :: behind }) ∧
      ((∀ x ∈ port.notices, replaces n x = false) →
        (port.notices.length < 12 → enqueue p n s = s.setPort p { port with notices := port.notices ++ [n] }) ∧
        (12 ≤ port.notices.length → enqueue p n s = full)))

/-! ## Notices received -/

/-- What any notice does to its source's presence, seen on a REPORT, which does nothing more (R139, R142, R164): nothing for a source without a direction; a PRESENT neighbour's quiet time restarts; any other becomes PRESENT, is sent its lists, and the entries that wait for it are re-claimed. -/
def Obligations.PresenceUpdated : Prop :=
  ∀ (rx : Rx) (tag kind : Byte) (body : List Byte) (s : State),
    body.length ≤ 38 → (s.port rx.port).state ≠ .off → s.clashes rx.src = false →
    exec (.reportReceived rx tag kind body) s = .next (updatePresence rx.src s) ∧
    (s.directionOf rx.src = none → updatePresence rx.src s = s) ∧
    ∀ d nb, s.directionOf rx.src = some d → s.neighbour d = some nb →
      let u := s.setNeighbour d (some ⟨nb.position, .present, some 0⟩)
      let fill (edge : Edge) (t : State) : State := sendTo edge.toDir (.fillList edge (s.filledPositions edge)) t
      let loans (b : BorrowerDir) (t : State) : State := sendTo b.toDir (.loanList (s.loansTo b)) t
      let holds (owner : OwnerDir) (t : State) : State := sendTo owner.toDir (.holdList (s.loansFrom owner)) t
      let listed : State := match d with
        | .n => loans .n (fill .n u)
        | .w => loans .w (fill .w u)
        | .nw => loans .nw u
        | .e => holds .e (fill .e u)
        | .s => holds .s (fill .s u)
        | .se => holds .se u
      (nb.presence = .present → updatePresence rx.src s = u) ∧
      (nb.presence ≠ .present → updatePresence rx.src s =
        rechooseAll true (fun c r => decide (r = .fill .ownerSilent) && c.ownedBy d) listed)

/-- The filter of received notices: malformed bits are discarded (R163); an OFF port reads nothing (R153); the tile's own position as source sets POSITION_CLASH (R163); a notice for another station only updates presence (R164); and of the nine kinds that the Seam Agent takes, one whose source has no direction is discarded (R10, R164). -/
def Obligations.NoticeFilter : Prop :=
  (∀ (p : PortId) (bits : List Bool) (s : State), readNotice bits = none →
    exec (.noticeMalformed p bits) s = .next s) ∧
  ∀ (c : Instr) (rx : Rx) (s : State), noticeRx c = some rx → c.wellFormed = true →
    ((s.port rx.port).state = .off → exec c s = .next s) ∧
    ((s.port rx.port).state ≠ .off → s.clashes rx.src = true →
      exec c s = .next { s with flags := { s.flags with positionClash := true } }) ∧
    ((s.port rx.port).state ≠ .off → s.clashes rx.src = false → s.addressed rx.dst = false →
      exec c s = .next (updatePresence rx.src s)) ∧
    ((s.port rx.port).state ≠ .off → s.clashes rx.src = false → s.directionOf rx.src = none →
      (∃ cell site attempt, c = .claimReceived rx cell site attempt) ∨
        (∃ site cell, c = .grantReceived rx site cell ∨ c = .waitReceived rx site cell ∨
          c = .revokeReceived rx site cell ∨ c = .releaseReceived rx site cell) ∨
        (∃ site cell reason, c = .refuseReceived rx site cell reason) ∨
        (∃ pairs, c = .holdListReceived rx pairs ∨ c = .loanListReceived rx pairs) ∨
        (∃ edge positions, c = .fillListReceived rx edge positions) →
      exec c s = .next s)

/-- The owner's answer to a CLAIM and its change of the site record, by the ten rows of R88 in their order, the attempt taking no part; row 6 asks for the site's diagonal (R89). -/
def Obligations.ClaimAnswered : Prop :=
  ∀ (s : State) (rx : Rx) (d : Dir) (c : Cell) (site : Site) (attempt : Fin 16), Takes s rx d →
    let h := updatePresence rx.src s
    let answers (t : State) : Prop := exec (.claimReceived rx c site attempt) s = .next t
    let refused (code : Fin 16) : Prop := answers (sendTo d (.refuse site c code) h)
    let granted (t : State) : Prop := answers (sendTo d (.grant site c) t)
    let waits (t : State) : Prop := answers (sendTo d (.wait site c) t)
    (c.inQuadFrom d site = false → refused 4) ∧
    (c.inQuadFrom d site = true → s.cfg.lending = false → refused 5) ∧
    (c.inQuadFrom d site = true → s.cfg.lending = true →
      ((h.site site).state = .absent → refused 3) ∧
      ((h.site site).state = .faulty → refused 2) ∧
      (∀ c', (h.site site).state = .own c' → refused 1) ∧
      ∃ b : BorrowerDir, b.toDir = d ∧
        ((h.site site).state = .free → (h.site site).proven = true →
          granted (h.setSiteState site (.lent b c))) ∧
        ((h.site site).state = .free → (h.site site).proven = false →
          waits { h.setSiteState site (.held b c 0) with
            handed := { h.handed with appendRequests := h.handed.appendRequests ++ [site.diagonal] } }) ∧
        (∀ n, (h.site site).state = .held b c n → (h.site site).proven = false → waits h) ∧
        (∀ n, (h.site site).state = .held b c n → (h.site site).proven = true →
          granted (h.setSiteState site (.lent b c))) ∧
        ((h.site site).state = .lent b c → granted h) ∧
        (∀ b' c' n, (h.site site).state = .held b' c' n → ¬ (b' = b ∧ c' = c) → refused 1) ∧
        (∀ b' c', (h.site site).state = .lent b' c' → ¬ (b' = b ∧ c' = c) → refused 1))

/-- GRANT and WAIT at the claimant: an ASKING entry becomes LOAN or has its timer restarted, a repeated GRANT is dropped, a GRANT that matches nothing is answered with a RELEASE (R119, R120, R121). -/
def Obligations.GrantAndWaitTaken : Prop :=
  ∀ (s : State) (rx : Rx) (d : Dir) (site : Site) (c : Cell), Takes s rx d →
    let h := updatePresence rx.src s
    (∀ (owner : OwnerDir) n timer, owner.toDir = d → h.remedyOf c = some (.asking owner site n timer) →
      exec (.grantReceived rx site c) s = .next ((h.writeRemedy c (.loan owner site)).unfilled c) ∧
      exec (.waitReceived rx site c) s = .next (h.writeRemedy c (.asking owner site n 0))) ∧
    (∀ owner : OwnerDir, owner.toDir = d → h.remedyOf c = some (.loan owner site) →
      exec (.grantReceived rx site c) s = .next h ∧ exec (.waitReceived rx site c) s = .next h) ∧
    (¬ Matches h d site c →
      exec (.grantReceived rx site c) s = .next (sendTo d (.release site c) h) ∧
      exec (.waitReceived rx site c) s = .next h)

/-- REFUSE and REVOKE at the claimant: an ASKING entry takes the FILL reason of the refusal, a REVOKE makes ASKING and LOAN entries FILL(REVOKED); all else is dropped (R75, R122, R123). -/
def Obligations.RefuseAndRevokeTaken : Prop :=
  ∀ (s : State) (rx : Rx) (d : Dir) (site : Site) (c : Cell) (code : Fin 16), Takes s rx d →
    let h := updatePresence rx.src s
    (∀ (owner : OwnerDir) n timer, owner.toDir = d → h.remedyOf c = some (.asking owner site n timer) →
      exec (.revokeReceived rx site c) s = .next (h.writeRemedy c (.fill .revoked)) ∧
      (code = 1 → exec (.refuseReceived rx site c code) s = .next (h.writeRemedy c (.fill .refusedInUse))) ∧
      (code = 2 → exec (.refuseReceived rx site c code) s = .next (h.writeRemedy c (.fill .refusedFaulty))) ∧
      (code = 3 → exec (.refuseReceived rx site c code) s = .next (h.writeRemedy c (.fill .refusedNoSite))) ∧
      (code = 4 → exec (.refuseReceived rx site c code) s = .next (h.writeRemedy c (.fill .refusedWrongSite))) ∧
      (code = 5 → exec (.refuseReceived rx site c code) s = .next (h.writeRemedy c (.fill .lendingOff))) ∧
      (code = 0 ∨ 5 < code → exec (.refuseReceived rx site c code) s = .next h)) ∧
    (∀ owner : OwnerDir, owner.toDir = d → h.remedyOf c = some (.loan owner site) →
      exec (.revokeReceived rx site c) s = .next ((h.writeRemedy c (.fill .revoked)).nowFilled c) ∧
      exec (.refuseReceived rx site c code) s = .next h) ∧
    (¬ Matches h d site c →
      exec (.revokeReceived rx site c) s = .next h ∧ exec (.refuseReceived rx site c code) s = .next h)

/-- A RELEASE frees the site that is LENT to its direction for its cell and offers it, and is ignored otherwise (R87, R92). -/
def Obligations.ReleaseTaken : Prop :=
  ∀ (s : State) (rx : Rx) (d : Dir) (site : Site) (c : Cell), Takes s rx d →
    let h := updatePresence rx.src s
    (∀ b : BorrowerDir, b.toDir = d → (h.site site).state = .lent b c →
      exec (.releaseReceived rx site c) s = .next (h.offered site)) ∧
    ((∀ b : BorrowerDir, b.toDir = d → (h.site site).state ≠ .lent b c) →
      exec (.releaseReceived rx site c) s = .next h)

/-- A LOAN_LIST: from an owner, a loan it omits becomes FILL(REVOKED) and is claimed again at once, in ascending entry position, its FILL_LISTs and its CLAIM handed on in their turn; then each pair not held draws a RELEASE; from any other direction it is discarded (R127, R132).
One entry per cell is the invariant of StepKeepsTableSound. -/
def Obligations.LoanListTaken : Prop :=
  ∀ (s : State) (rx : Rx) (d : Dir) (pairs : List LoanPair), Takes s rx d → pairs.length ≤ 16 →
    let h := updatePresence rx.src s
    ((∀ owner : OwnerDir, owner.toDir ≠ d) → exec (.loanListReceived rx pairs) s = .next h) ∧
    ∀ owner : OwnerDir, owner.toDir = d → ∃ u,
      u = { h with
        entries := u.entries, sites := u.sites, ports := u.ports, flags := u.flags
        seam := { h.seam with filledEdges := u.seam.filledEdges } } ∧
      (∀ c site, h.remedyOf c = some (.loan owner site) → (⟨site, c⟩ : LoanPair) ∈ pairs →
        u.remedyOf c = some (.loan owner site)) ∧
      (∀ c site, h.remedyOf c = some (.loan owner site) → (⟨site, c⟩ : LoanPair) ∉ pairs →
        c.home = .foreign owner site →
        u.remedyOf c = some (if s.cfg.lending then .asking owner site 1 0 else .fill .lendingOff)) ∧
      (∀ c, (∀ site, h.remedyOf c ≠ some (.loan owner site)) → u.remedyOf c = h.remedyOf c) ∧
      ((h.entries.map Entry.cell).Nodup →
        let omitted : List Cell := h.entries.filterMap fun e =>
          match e.remedy with
          | some (.loan owner' site) =>
            if owner' = owner ∧ (⟨site, e.cell⟩ : LoanPair) ∉ pairs then some e.cell else none
          | _ => none
        u = omitted.foldl (fun t c => ((t.writeRemedy c (.fill .revoked)).nowFilled c).reclaimed c) h) ∧
      exec (.loanListReceived rx pairs) s = .next (pairs.foldl (fun t pair =>
        if u.remedyOf pair.cell = some (.loan owner pair.site) then t
        else sendTo d (.release pair.site pair.cell) t) u)

/-- A FILL_LIST across the edge that faces this tile replaces its sender's records as far as the 64 places go, with FILL_LIST_FULL when a position found no room; any other is discarded (R13, R148). -/
def Obligations.FillListTaken : Prop :=
  ∀ (s : State) (rx : Rx) (d : Dir) (edge : Edge) (positions : List (Fin 32)), Takes s rx d →
    positions.length ≤ 32 →
    let h := updatePresence rx.src s
    ((∀ own : Edge, own.toDir = d → edge ≠ own.facing) → exec (.fillListReceived rx edge positions) s = .next h) ∧
    ∀ own : Edge, own.toDir = d → edge = own.facing →
      let kept := h.seam.foreignFills.filter fun r => decide (r.edge ≠ own)
      let wanted := firstUses positions
      exec (.fillListReceived rx edge positions) s = .next { h with
        seam := { h.seam with
          foreignFills := kept ++ (wanted.take (64 - kept.length)).map fun p => ⟨own, p⟩ }
        flags := { h.flags with
          fillListFull := h.flags.fillListFull || decide (64 < kept.length + wanted.length ∧ wanted ≠ []) } }

/-- A SECTION_RESTART from a service station throws away the view of the neighbours and the evidence, and keeps the repairs inside the tile and the store, in the nine steps of R150 (R40, R58, R79, R94, R97, R133, R143, R150, R151, R181); from any other source it is ignored (R165).
Steps 4 to 7 change the filled edge sets with no list of their own (R146); the refresh fills the emptied notice queues, which have room for its ten lists, so every sticky flag stands.
The model's readings: what becomes of the notice in transmission (log entry 13), and that append requests, verdicts and sweep ends handed on before the restart stay handed on (log entry 23). -/
def Obligations.SectionRestart : Prop :=
  ∀ (s : State) (rx : Rx), (s.port rx.port).state ≠ .off → s.clashes rx.src = false →
    s.addressed rx.dst = true →
    let h := updatePresence rx.src s
    (rx.src.isStation = false → exec (.sectionRestart rx) s = .next h) ∧
    (rx.src.isStation = true → ∃ t, exec (.sectionRestart rx) s = .next t ∧
      t = { h with
        cells := t.cells, entries := t.entries, sites := t.sites, seam := t.seam, ports := t.ports
        flags := t.flags
        supply := { h.supply with countdown := h.cfg.settleFrames }
        probe := { h.probe with
          chip := 1, n := 0, onCount := 0, offCount := 0
          onSum := Tbl.fill 144 0, offSum := Tbl.fill 144 0, sat := Tbl.fill 144 false
          plan := none, stallTimer := some 0, p := 0, q := 0, overrides := [], gain := Tbl.fill 144 3 } } ∧
      (let emptied (port : Port) : Port :=
          { port with answers := [], notices := [], dropAfter := port.attempt.isSome }
        let unheard : State := { h with
          ports := ⟨emptied h.ports.a, emptied h.ports.b⟩
          seam := { h.seam with
            neighbours := h.seam.neighbours.map fun entry => entry.map fun nb => ⟨nb.position, .unheard, none⟩
            foreignFills := [] } }
        let freed := (h.sitesThat fun _ state => state.givenTo fun _ => true).foldl State.offeredQuietly unheard
        let dropped := (h.entries.map Entry.cell).foldl (fun t c => t.ownerLost false (fun _ => true) c) freed
        let cleared : State := { dropped with
          cells := t.cells
          sites := dropped.sites.map fun r => { r with faultRun := 0, lastVerdict := .never }
          probe := t.probe, supply := t.supply }
        let chosen := (h.entries.map Entry.cell).foldl State.chosenAnew cleared
        t = { chosen.listsSent with seam := { chosen.seam with refreshTimer := some 0 } }) ∧
      t.flags = h.flags ∧ t.entries.map Entry.beside = h.entries.map Entry.beside ∧
      (∀ site, (h.site site).state = .absent ∨ (h.site site).state = .faulty →
        (t.site site).state = (h.site site).state) ∧
      (∀ c owner site r, c.home = .foreign owner site → h.remedyOf c = some r → (∀ own, r ≠ .ownSpare own) →
        t.remedyOf c = some (.fill (if h.neighbour owner.toDir = none then .noNeighbour
          else if h.cfg.lending = false then .lendingOff else .ownerSilent))) ∧
      (∀ d, t.neighbour d = (h.neighbour d).map fun nb => ⟨nb.position, .unheard, none⟩) ∧
      t.seam.foreignFills = [] ∧ t.seam.refreshTimer = some 0 ∧
      (∀ c, t.cell c = ⟨if (h.cell c).condition = .suspect then .good else (h.cell c).condition,
        .never, 0, 0, 0, ⟨0, 0, 0⟩, 0⟩) ∧
      (∀ site, (t.site site).faultRun = 0 ∧ (t.site site).lastVerdict = .never ∧
        (t.site site).proven = (h.site site).proven) ∧
      (∀ site b c n, (t.site site).state ≠ .lent b c ∧ (t.site site).state ≠ .held b c n) ∧
      (∀ site c, (h.site site).state = .own c → (t.site site).state = .own c) ∧
      (∀ c owner site n timer, t.remedyOf c ≠ some (.loan owner site) ∧
        t.remedyOf c ≠ some (.asking owner site n timer)) ∧
      (∀ c site, h.remedyOf c = some (.ownSpare site) → t.remedyOf c = some (.ownSpare site)) ∧
      t.entries.map Entry.cell = h.entries.map Entry.cell ∧
      ∀ p, (t.port p).answers = [] ∧ (t.port p).state = (h.port p).state ∧
        (t.port p).current = (h.port p).current ∧ (t.port p).attempt = (h.port p).attempt ∧
        (t.port p).dropAfter = (h.port p).attempt.isSome)

/-- Every notice with counts in range is read back from the bits it is sent as: no field is dropped, and its check is right (section 9.2, R155, R156; the check's reading by log entry 11). -/
def Obligations.NoticeBitsReadBack : Prop :=
  ∀ n : Notice, countInRange n.body = true → readNotice (noticeBits n) = some n

/-! ## Service requests -/

/-- The four queries change nothing but the last tag and the answer queue, and are answered with their reports, or BAD_CELL or BAD_SITE (R182, R183, R184, R185). What the reports hold: their fields in order, with the widths and codes of R186, packed most significant bit first and closed with 0 bits to a whole byte; the attempt of ASKING is carried less one (R155). An entry without a remedy, which no report in RUN meets, shows no remedy fields (log entry 24). -/
def Obligations.QueriesAnswered : Prop :=
  (∀ (r : Report) (tag : Byte), r.body tag =
    .report tag (BitVec.ofNat 8 r.kind) (bytesOfBits (r.fields.flatMap fun f => bitsOfNat f.width f.value))) ∧
  (∀ bits : List Bool,
    bitsOfBytes (bytesOfBits bits) = bits ++ List.replicate ((8 - bits.length % 8) % 8) false) ∧
  ([AckCode.done, .repeated, .badRequest, .badCell, .badSite, .noRoom, .already, .notMarked].map ackReport =
    [0, 1, 2, 3, 4, 5, 6, 7].map fun code => ⟨0, [⟨8, code⟩]⟩) ∧
  ([Condition.good, .suspect, .dim, .retired].map Condition.code = [0, 1, 2, 3] ∧
    [LastVerdict.never, .healthy, .weak, .fault, .none].map LastVerdict.code = [0, 1, 2, 3, 4] ∧
    [OwnerDir.e, .s, .se].map ownerCode = [0, 1, 2] ∧ [BorrowerDir.w, .n, .nw].map borrowerCode = [0, 1, 2] ∧
    [FillReason.quadBusy, .siteFaulty, .siteAbsent, .noNeighbour, .lendingOff, .ownerSilent, .noAnswer,
      .refusedInUse, .refusedFaulty, .refusedNoSite, .refusedWrongSite, .revoked].map FillReason.code
        = List.range 12 ∧
    [Origin.detected, .stored, .marked].map Origin.code = [0, 1, 2] ∧
    (∀ d c n, [SiteState.absent, .free, .held d c n, .own c, .lent d c, .faulty].map SiteState.code
      = [0, 1, 2, 3, 4, 5]) ∧
    (∀ p quiet, [none, some ⟨p, .unheard, quiet⟩, some ⟨p, .present, quiet⟩, some ⟨p, .silent, quiet⟩].map presenceCode
      = [0, 1, 2, 3]) ∧
    [IntakeState.receiving, .lost, .dark].map IntakeState.code = [0, 1, 2] ∧
    [SupplyState.low, .good].map SupplyState.code = [0, 1]) ∧
  (∀ s : State,
    let cell (c : Cell) : ReportField := ⟨10, 32 * c.y.val + c.x.val⟩
    let site (t : Site) : ReportField := ⟨8, 16 * t.j.val + t.i.val⟩
    let response (v : Int) : ReportField := ⟨13, (BitVec.ofInt 13 v).toNat⟩
    let record (r : CellRecord) : List ReportField :=
      [⟨2, r.condition.code⟩, ⟨3, r.lastVerdict.code⟩, ⟨3, r.faultRun⟩, ⟨3, r.weakRun⟩, ⟨3, r.healthyRun⟩,
        response r.responses.r, response r.responses.g, response r.responses.b, ⟨24, r.sweep⟩]
    let entry (e : Entry) : List ReportField :=
      match e.body with
      | .dim gains => [⟨1, 0⟩, ⟨15, gains.r⟩, ⟨15, gains.g⟩, ⟨15, gains.b⟩]
      | .retired remedy at_ persisted =>
        [⟨1, 1⟩] ++ (match remedy with
          | some (.ownSpare t) => [⟨2, 0⟩, site t]
          | some (.loan owner t) => [⟨2, 1⟩, ⟨2, ownerCode owner⟩, site t]
          | some (.asking owner t n timer) => [⟨2, 2⟩, ⟨2, ownerCode owner⟩, site t, ⟨4, n - 1⟩, ⟨5, timer⟩]
          | some (.fill why) => [⟨2, 3⟩, ⟨4, why.code⟩]
          | none => []) ++ [⟨2, e.origin.code⟩, ⟨24, at_⟩, ⟨1, persisted.toNat⟩]
    (∀ c, s.entryOf c = none → cellReport c s = ⟨1, [cell c] ++ record (s.cell c) ++ [⟨1, 0⟩]⟩) ∧
    (∀ c older e newer, s.entries = older ++ e :: newer → (∀ x ∈ older, x.cell ≠ c) → e.cell = c →
      cellReport c s = ⟨1, [cell c] ++ record (s.cell c) ++ [⟨1, 1⟩, ⟨7, older.length⟩] ++ entry e⟩) ∧
    (∀ t : Site, siteReport t s = ⟨2,
      [site t, ⟨3, (s.site t).state.code⟩, ⟨1, (s.site t).proven.toNat⟩, ⟨3, (s.site t).faultRun⟩,
        ⟨3, (s.site t).lastVerdict.code⟩] ++
      match (s.site t).state with
      | .own c => [cell c]
      | .lent d c => [⟨2, borrowerCode d⟩, cell c]
      | .held d c timer => [⟨2, borrowerCode d⟩, cell c, ⟨9, 500 - timer⟩]
      | _ => []⟩) ∧
    (∀ n : Byte, entryReport n s = ⟨3, [⟨8, n.toNat⟩] ++
      match s.entries[n.toNat]? with
      | some e => [⟨1, 1⟩, cell e.cell] ++ entry e
      | none => [⟨1, 0⟩]⟩) ∧
    (let cells (k : Condition) : ReportField :=
        ⟨11, (List.finRange 1024).countP fun n => decide ((s.cells.get n).condition = k)⟩
      let kind (test : Remedy → Bool) : ReportField := ⟨8, s.entries.countP fun e => e.remedy.any test⟩
      let sites (k : Nat) : ReportField :=
        ⟨9, (List.finRange 256).countP fun n => decide ((s.sites.get n).state.code = k)⟩
      summaryTables s = ⟨4, [Condition.good, .suspect, .dim, .retired].map cells ++
        [⟨8, s.entries.countP fun e => !e.isRetired⟩, ⟨8, s.entries.countP Entry.isRetired⟩] ++
        [kind fun r => r matches .ownSpare _, kind fun r => r matches .loan .., kind fun r => r matches .asking ..,
          kind fun r => r matches .fill _] ++
        [FillReason.quadBusy, .siteFaulty, .siteAbsent, .noNeighbour, .lendingOff, .ownerSilent, .noAnswer,
          .refusedInUse, .refusedFaulty, .refusedNoSite, .refusedWrongSite, .revoked].map
            (fun why => kind fun r => decide (r = .fill why)) ++
        [0, 1, 2, 3, 4, 5].map sites⟩) ∧
    (let bit (b : Bool) : ReportField := ⟨1, b.toNat⟩
      let direction (d : Dir) : List ReportField :=
        [⟨2, presenceCode (s.neighbour d)⟩,
          ⟨16, match s.neighbour d with
            | some nb => nb.quiet.getD 0
            | none => 0⟩]
      summaryState s = ⟨5, direction .n ++ direction .e ++ direction .s ++ direction .w ++ direction .nw ++ direction .se ++
        [⟨7, s.seam.foreignFills.length⟩, ⟨24, s.probe.sweepCount⟩, ⟨5, s.probe.p.val⟩, ⟨4, s.probe.q.val⟩,
          bit s.flags.supplyDip, bit s.flags.senseCeiling, bit s.flags.tableFull, bit s.flags.fillListFull,
          bit s.flags.queueFull, bit s.flags.linkQuietSeen, bit s.flags.positionClash, bit s.flags.storeFull,
          bit s.flags.storeFault, bit s.flags.videoLostSeen,
          bit s.configDefault, bit s.calDefault, bit (decide (s.store.state = .missing)),
          bit (decide (s.position.col.val = 127)), bit ((List.finRange 144).any fun i => s.probe.leak.get i),
          ⟨2, s.intake.state.code⟩, ⟨1, s.supply.state.code⟩]⟩)) ∧
  ∀ (s : State) (rx : Rx) (tag : Byte), FromStation s rx →
    let h := updatePresence rx.src s
    let g := h.setLastTag rx.port tag
    ((h.port rx.port).answers.length ≤ 2 →
      exec (.querySummary rx tag) s = .next (g.replied rx tag [summaryTables h, summaryState h])) ∧
    ((h.port rx.port).answers.length ≤ 3 →
      (∀ (c : Cell) (x y : Byte), x.toNat = c.x.val → y.toNat = c.y.val →
        exec (.queryCell rx tag x y) s = .next (g.replied rx tag [cellReport c h])) ∧
      (∀ x y : Byte, 32 ≤ x.toNat ∨ 32 ≤ y.toNat →
        exec (.queryCell rx tag x y) s = .next (g.replied rx tag [ackReport .badCell])) ∧
      (∀ (site : Site) (i j : Byte), i.toNat = site.i.val → j.toNat = site.j.val →
        exec (.querySite rx tag i j) s = .next (g.replied rx tag [siteReport site h])) ∧
      (∀ i j : Byte, 16 ≤ i.toNat ∨ 16 ≤ j.toNat →
        exec (.querySite rx tag i j) s = .next (g.replied rx tag [ackReport .badSite])) ∧
      ∀ n : Byte, exec (.queryEntry rx tag n) s = .next (g.replied rx tag [entryReport n h]))

/-- MARK retires a cell with origin MARKED, remedy chosen and append queued, in a full table by evicting the oldest DIM entry, whose cell becomes GOOD, and answers DONE, ALREADY, NO_ROOM or BAD_CELL (R54, R56, R67, R182, R183). -/
def Obligations.MarkCarriedOut : Prop :=
  ∀ (s : State) (rx : Rx) (tag x y : Byte), FromStation s rx →
    let h := updatePresence rx.src s
    let g := h.setLastTag rx.port tag
    h.lastTag rx.port ≠ some tag → (h.port rx.port).answers.length ≤ 3 →
    (32 ≤ x.toNat ∨ 32 ≤ y.toNat →
      exec (.mark rx tag x y) s = .next (g.replied rx tag [ackReport .badCell])) ∧
    ∀ c : Cell, x.toNat = c.x.val → y.toNat = c.y.val →
      ((h.cell c).condition = .retired →
        exec (.mark rx tag x y) s = .next (g.replied rx tag [ackReport .already])) ∧
      ((h.cell c).condition = .good ∨ (h.cell c).condition = .suspect →
        (h.entries.length < 128 → exec (.mark rx tag x y) s = .next
          (((storeAppend c .marked (chooseRemedy true c
            { g with entries := h.entries ++ [⟨c, .marked, .retired none h.probe.sweepCount false⟩] })).setCell c
              ((h.cell c).turned .retired)).replied rx tag [ackReport .done])) ∧
        (128 ≤ h.entries.length → (∀ e ∈ h.entries, e.isRetired = true) →
          exec (.mark rx tag x y) s = .next (g.replied rx tag [ackReport .noRoom])) ∧
        (128 ≤ h.entries.length → ∀ older e newer, h.entries = older ++ e :: newer →
          (∀ o ∈ older, o.isRetired = true) → e.isRetired = false → e.cell ≠ c →
          exec (.mark rx tag x y) s = .next
            ((((storeAppend c .marked (chooseRemedy true c
              { g with entries := removeCell e.cell h.entries ++
                  [⟨c, .marked, .retired none h.probe.sweepCount false⟩] })).setCell c
                ((h.cell c).turned .retired)).setCell e.cell ((h.cell e.cell).turned .good)).replied rx tag
                  [ackReport .done]))) ∧
      ((h.cell c).condition = .dim → ∀ e, h.entryOf c = some e → e.isRetired = false →
        exec (.mark rx tag x y) s = .next
          (((storeAppend c .marked (chooseRemedy true c
            { g with entries := h.entries.map fun e =>
                if e.cell = c ∧ e.isRetired = false then
                  ⟨e.cell, .marked, .retired none h.probe.sweepCount false⟩
                else e })).setCell c ((h.cell c).turned .retired)).replied rx tag [ackReport .done]))

/-- RESTORE removes the entry of a DIM or RETIRED cell, releases its remedy, tells the store and answers DONE; otherwise NOT_MARKED or BAD_CELL (R57, R70, R126, R179, R183).
That the RELEASE is handed on before the FILL_LISTs is the model's reading (log entry 12). -/
def Obligations.RestoreCarriedOut : Prop :=
  ∀ (s : State) (rx : Rx) (tag x y : Byte), FromStation s rx →
    let h := updatePresence rx.src s
    let g := h.setLastTag rx.port tag
    h.lastTag rx.port ≠ some tag → (h.port rx.port).answers.length ≤ 3 →
    (32 ≤ x.toNat ∨ 32 ≤ y.toNat →
      exec (.restore rx tag x y) s = .next (g.replied rx tag [ackReport .badCell])) ∧
    ∀ c : Cell, x.toNat = c.x.val → y.toNat = c.y.val →
      let restored (t : State) : Prop := exec (.restore rx tag x y) s = .next
        ((t.setCell c ((h.cell c).turned .good)).replied rx tag [ackReport .done])
      let without (t : State) : State := { t with entries := removeCell c h.entries }
      ((h.cell c).condition = .good ∨ (h.cell c).condition = .suspect →
        exec (.restore rx tag x y) s = .next (g.replied rx tag [ackReport .notMarked])) ∧
      ((h.cell c).condition = .dim → ∀ e, h.entryOf c = some e → e.isRetired = false → restored (without g)) ∧
      ((h.cell c).condition = .retired →
        (∀ reason, h.remedyOf c = some (.fill reason) → restored (storeRemoval c ((without g).unfilled c))) ∧
        (∀ owner site, h.remedyOf c = some (.loan owner site) →
          restored (storeRemoval c (without (sendTo owner.toDir (.release site c) g)))) ∧
        (∀ owner site n timer, h.remedyOf c = some (.asking owner site n timer) →
          restored (storeRemoval c ((without (sendTo owner.toDir (.release site c) g)).unfilled c))) ∧
        ∀ site, h.remedyOf c = some (.ownSpare site) → (h.site site).state = .own c →
          restored (storeRemoval c ((without g).offered site)))

/-- RESCAN, CLEAR_FLAGS and CLEAR_RETIRED carried out and answered DONE, and a request that is none of the nine commands answered BAD_REQUEST (R39, R58, R79, R97, R180, R182, R183, R187). -/
def Obligations.ActingRequestsCarriedOut : Prop :=
  ∀ (s : State) (rx : Rx) (tag : Byte), FromStation s rx →
    let h := updatePresence rx.src s
    let g := h.setLastTag rx.port tag
    let done (t : State) : State := t.replied rx tag [ackReport .done]
    let emptied : State := { g with
      entries := h.entries.map fun e => e.withPersisted false
      store := { h.store with
        pendingWrites := [], rewrite := (h.entries.filter Entry.isRetired).map Entry.cell } }
    h.lastTag rx.port ≠ some tag → (h.port rx.port).answers.length ≤ 3 →
    exec (.clearFlags rx tag) s = .next (done { g with
      flags := ⟨false, false, false, false, false, false, false, false, false, false⟩ }) ∧
    exec (.rescan rx tag) s = .next (done (rechooseAll true (fun _ r => r.isFill) { g with
      cells := h.cells.map fun r => ⟨if r.condition = .suspect then .good else r.condition,
        .never, 0, 0, 0, ⟨0, 0, 0⟩, 0⟩
      sites := h.sites.map fun r => { r with faultRun := 0, lastVerdict := .never }
      probe := { h.probe with
        chip := 1, n := 0, onCount := 0, offCount := 0
        onSum := Tbl.fill 144 0, offSum := Tbl.fill 144 0, sat := Tbl.fill 144 false
        plan := none, stallTimer := some 0, p := 0 } })) ∧
    (h.store.state = .missing → exec (.clearRetired rx tag) s = .next (done g)) ∧
    (h.store.state = .idle → exec (.clearRetired rx tag) s = .next (done { emptied with
      store := { emptied.store with
        state := .erasing, job := some .erase, jobTimer := some 0, eraseWaits := false } })) ∧
    (h.store.state = .writing → exec (.clearRetired rx tag) s = .next (done { emptied with
      store := { emptied.store with eraseWaits := true } })) ∧
    (h.store.state = .erasing → exec (.clearRetired rx tag) s = .next (done emptied)) ∧
    ∀ (command : Byte) (arguments : List Byte), arguments.length ≤ 38 → readCommand command arguments = none →
      exec (.serviceRequestUnknown rx tag command arguments) s =
        .next (g.replied rx tag [ackReport .badRequest])

/-- Requests turned away: a repeat of an acting command is answered REPEATED, one that finds too few answer places is dropped with QUEUE_FULL, one to ALL is ignored and one from a tile discarded (R165, R182). -/
def Obligations.RequestsTurnedAway : Prop :=
  ∀ (s : State) (rx : Rx) (tag x y : Byte), (s.port rx.port).state ≠ .off → s.clashes rx.src = false →
    let h := updatePresence rx.src s
    let acting : List Instr :=
      [.mark rx tag x y, .restore rx tag x y, .rescan rx tag, .clearFlags rx tag, .clearRetired rx tag]
    let queries : List Instr := [.queryCell rx tag x y, .querySite rx tag x y, .queryEntry rx tag x]
    (rx.src.isStation = true → rx.dst = s.position →
      (∀ i ∈ acting, (h.port rx.port).answers.length ≤ 3 → h.lastTag rx.port = some tag →
        exec i s = .next (h.replied rx tag [ackReport .repeated])) ∧
      (∀ i ∈ acting ++ queries, 4 ≤ (h.port rx.port).answers.length →
        exec i s = .next { h with flags := { h.flags with queueFull := true } }) ∧
      (3 ≤ (h.port rx.port).answers.length →
        exec (.querySummary rx tag) s = .next { h with flags := { h.flags with queueFull := true } })) ∧
    (s.addressed rx.dst = true → rx.src.isStation = false ∨ rx.dst ≠ s.position →
      ∀ i ∈ Instr.querySummary rx tag :: acting ++ queries, exec i s = .next h)

/-! ## The store -/

/-- The pending write list: an append at the end, refused with STORE_FULL when 8 operations wait (R177); a removal takes out the cell's most recent append or queues a void of its LIVE slot (R179); in MISSING neither (R170). -/
def Obligations.PendingWriteList : Prop :=
  ∀ (c : Cell) (o : Origin) (s : State),
    let with_ (ops : List PendingWrite) : State := { s with store := { s.store with pendingWrites := ops } }
    let full : State := { s with flags := { s.flags with storeFull := true } }
    (s.store.state = .missing → storeAppend c o s = s ∧ storeRemoval c s = s) ∧
    (s.store.state ≠ .missing →
      (s.store.pendingWrites.length < 8 → storeAppend c o s = with_ (s.store.pendingWrites ++ [.append c o])) ∧
      (8 ≤ s.store.pendingWrites.length → storeAppend c o s = full) ∧
      (∀ older o' newer, s.store.pendingWrites = older ++ .append c o' :: newer →
        (∀ o'', PendingWrite.append c o'' ∉ newer) → storeRemoval c s = with_ (older ++ newer)) ∧
      ((∀ o', PendingWrite.append c o' ∉ s.store.pendingWrites) →
        ((∀ slot, s.store.slots.get slot ≠ .live c) → storeRemoval c s = s) ∧
        ∀ slot, s.store.slots.get slot = .live c → (∀ lower < slot, s.store.slots.get lower ≠ .live c) →
          (s.store.pendingWrites.length < 8 → storeRemoval c s = with_ (s.store.pendingWrites ++ [.void slot])) ∧
          (8 ≤ s.store.pendingWrites.length → storeRemoval c s = full)))

/-- A write begins when the store is IDLE in RUN, the rewrite list before the pending list: cells of the rewrite list whose entry is gone or that a LIVE slot holds are passed over, within the beginning of the next operation (R180; log entry 20); an append takes the lowest EMPTY slot, is complete at once when a LIVE slot holds the cell, or is dropped with STORE_FULL; a void writes its marking (R177). A completion sets the persisted field unless a later operation for the cell waits (R178): its append, the void of the slot LIVE with it, or its place in the rewrite list (log entry 21). -/
def Obligations.WriteBegins : Prop :=
  (∀ (st : Store) (c : Cell), st.laterOperation c = true ↔
    (∃ o, PendingWrite.append c o ∈ st.pendingWrites) ∨
      (∃ slot, PendingWrite.void slot ∈ st.pendingWrites ∧ st.slots.get slot = .live c) ∨ c ∈ st.rewrite) ∧
  ∀ s : State,
    let skipped (c : Cell) : Prop := s.retiredEntry c = none ∨ ∃ slot, s.store.slots.get slot = .live c
    let waiting (rewrite : List Cell) (ops : List PendingWrite) : State :=
      { s with store := { s.store with rewrite := rewrite, pendingWrites := ops } }
    (¬ (s.mode = .run ∧ s.store.state = .idle) → exec .storeWriteBegin s = .next s) ∧
    (s.mode = .run → s.store.state = .idle →
      ((∀ x ∈ s.store.rewrite, skipped x) → s.store.pendingWrites = [] →
        exec .storeWriteBegin s = .next (waiting [] [])) ∧
      (∀ slot rest, (∀ x ∈ s.store.rewrite, skipped x) → s.store.pendingWrites = .void slot :: rest →
        let u := waiting [] rest
        exec .storeWriteBegin s = .next { u with store := { u.store with
          state := .writing, job := some (.void slot), jobTimer := some 0 } }) ∧
      ∀ c o (u : State),
        ((∀ x ∈ s.store.rewrite, skipped x) ∧ ∃ rest, s.store.pendingWrites = .append c o :: rest ∧
            u = waiting [] rest) ∨
          (∃ passed rest e, s.store.rewrite = passed ++ c :: rest ∧ (∀ x ∈ passed, skipped x) ∧ ¬ skipped c ∧
            s.retiredEntry c = some e ∧ o = (if e.origin = .marked then .marked else .detected) ∧
            u = waiting rest s.store.pendingWrites) →
        (∀ slot, (∀ other, s.store.slots.get other ≠ .live c) → s.store.slots.get slot = .empty →
          (∀ lower < slot, s.store.slots.get lower ≠ .empty) →
          exec .storeWriteBegin s = .next { u with store := { u.store with
            state := .writing, slots := s.store.slots.set slot (.live c)
            job := some (.append c o slot), jobTimer := some 0 } }) ∧
        ((∀ other, s.store.slots.get other ≠ .live c) → (∀ other, s.store.slots.get other ≠ .empty) →
          exec .storeWriteBegin s = .next { u with flags := { s.flags with storeFull := true } }) ∧
        (∀ slot, s.store.slots.get slot = .live c →
          (u.store.laterOperation c = false → exec .storeWriteBegin s = .next { u with
            entries := changeEntry c (fun e => e.withPersisted true) s.entries }) ∧
          (u.store.laterOperation c = true → exec .storeWriteBegin s = .next u)))

/-- A write or an erase ends: completed, in error, or timed out (R178, R180); an erase that waited for the write begins then, and the write's result stands (R180; at once also after a time limit: log entry 26). With no such operation in progress nothing changes (log entry 8).
A slot is written as 0xA5, the 10 bits of the cell, the 2 of the origin, 4 of 0, and the check over those 16 (R169). Of a void only the marking is read back (log entry 15). -/
def Obligations.StoreOperationEnds : Prop :=
  (∀ (c : Cell) (o : Origin),
    let word := 64 * (32 * c.y.val + c.x.val) + 16 * (if o = .marked then 1 else 0)
    slotBytes c o = [0xA5#8, BitVec.ofNat 8 (word / 256), BitVec.ofNat 8 (word % 256), crc8 (bitsOfNat 16 word)]) ∧
  ∀ (error : Bool) (readBack : Tbl 4 Byte) (s : State),
    let ended : Store := { s.store with state := .idle, job := none, jobTimer := none }
    let fault : Flags := { s.flags with storeFault := true }
    let thenErase (t : State) : State :=
      if s.store.eraseWaits = true then
        { t with store := { t.store with
            state := .erasing, job := some .erase, jobTimer := some 0, eraseWaits := false } }
      else t
    let failed (t : State) : Prop := exec .storeWriteTimeout s = .next (thenErase t) ∧
      (error = true → exec (.storeWriteEnd error readBack) s = .next (thenErase t))
    let answers (t : State) : Prop := exec (.storeWriteEnd error readBack) s = .next (thenErase t)
    (s.store.state ≠ .writing →
      exec (.storeWriteEnd error readBack) s = .next s ∧ exec .storeWriteTimeout s = .next s) ∧
    (s.store.state ≠ .erasing → exec (.storeEraseEnd error) s = .next s ∧ exec .storeEraseTimeout s = .next s) ∧
    (s.store.state = .writing →
      (∀ c o slot, s.store.job = some (.append c o slot) →
        let broken : State := { s with store := { ended with slots := s.store.slots.set slot .void }, flags := fault }
        failed broken ∧
        (error = false → readBack.data ≠ slotBytes c o → answers broken) ∧
        (error = false → readBack.data = slotBytes c o → s.store.laterOperation c = false →
          answers { s with
            store := ended, entries := changeEntry c (fun e => e.withPersisted true) s.entries }) ∧
        (error = false → readBack.data = slotBytes c o → s.store.laterOperation c = true →
          answers { s with store := ended })) ∧
      (∀ slot, s.store.job = some (.void slot) →
        failed { s with store := ended, flags := fault } ∧
        (error = false → readBack.get 0 = 0x00#8 →
          answers { s with store := { ended with slots := s.store.slots.set slot .void } }) ∧
        (error = false → readBack.get 0 ≠ 0x00#8 → answers { s with store := ended, flags := fault }))) ∧
    (s.store.state = .erasing →
      let appends := s.store.pendingWrites.filter PendingWrite.isAppend
      let wiped : State := { s with
        store := { ended with slots := Tbl.fill 128 .void, rewrite := [], pendingWrites := appends }, flags := fault }
      exec .storeEraseTimeout s = .next wiped ∧
      (error = true → exec (.storeEraseEnd error) s = .next wiped) ∧
      (error = false → exec (.storeEraseEnd error) s = .next { s with
        store := { ended with slots := Tbl.fill 128 .empty, pendingWrites := appends } }))

/-! ## Invariants -/

/-- Every step keeps every list of the part within its capacity: the queues of the ports, the pending write list, the override list and the foreign fill list (R34, R147, R160, R161, R177). -/
def Obligations.StepKeepsListsWithinCapacity : Prop :=
  ∀ s t : State, ListsWithinCapacity s → step s = .next t → ListsWithinCapacity t

/-- Every step keeps the pass sound: the chip sequence, the counts, the sums and the gain levels (R19, R22, R23, R24). -/
def Obligations.StepKeepsPassSound : Prop :=
  ∀ s t : State, PassSound s → step s = .next t → PassSound t

/-- Every step keeps every drive code at the port in 0..65535 (R109). -/
def Obligations.StepKeepsDriveCodes : Prop :=
  ∀ s t : State, DriveCodesSound s → step s = .next t → DriveCodesSound t

/-- Every step keeps the remap table at most 128 entries, one per cell, in agreement with the conditions of the cells (R45, R62). -/
def Obligations.StepKeepsTableSound : Prop :=
  ∀ s t : State, TableSound s → step s = .next t → TableSound t

/-- Every step keeps the OWN_SPARE remedies and the OWN sites in agreement (R64). -/
def Obligations.StepKeepsOwnSpares : Prop :=
  ∀ s t : State, TableSound s → OwnSparesMatchSites s → step s = .next t → OwnSparesMatchSites t

/-- The invariants hold at reset. -/
def Obligations.InvariantsHoldAtReset : Prop :=
  ListsWithinCapacity State.reset ∧ PassSound State.reset ∧ DriveCodesSound State.reset ∧
    TableSound State.reset ∧ OwnSparesMatchSites State.reset

end
end

