-- ==== Sys2Proof/Laws/State.lean ====
section
/-! SUPPORT. What each named update of State leaves and changes, field by field, so that no proof unfolds a record update. -/

namespace Sys2Proof.Machine

variable (s : State)

/-! ## raise -/

@[simp] theorem raise_mode (f : Flag) : (s.raise f).mode = s.mode := rfl
@[simp] theorem raise_loadPhase (f : Flag) : (s.raise f).loadPhase = s.loadPhase := rfl
@[simp] theorem raise_position (f : Flag) : (s.raise f).position = s.position := rfl
@[simp] theorem raise_cfg (f : Flag) : (s.raise f).cfg = s.cfg := rfl
@[simp] theorem raise_configDefault (f : Flag) : (s.raise f).configDefault = s.configDefault := rfl
@[simp] theorem raise_calibration (f : Flag) : (s.raise f).calibration = s.calibration := rfl
@[simp] theorem raise_calDefault (f : Flag) : (s.raise f).calDefault = s.calDefault := rfl
@[simp] theorem raise_flags (f : Flag) : (s.raise f).flags = s.flags.raise f := rfl
@[simp] theorem raise_intake (f : Flag) : (s.raise f).intake = s.intake := rfl
@[simp] theorem raise_render (f : Flag) : (s.raise f).render = s.render := rfl
@[simp] theorem raise_probe (f : Flag) : (s.raise f).probe = s.probe := rfl
@[simp] theorem raise_handed (f : Flag) : (s.raise f).handed = s.handed := rfl
@[simp] theorem raise_supply (f : Flag) : (s.raise f).supply = s.supply := rfl
@[simp] theorem raise_cells (f : Flag) : (s.raise f).cells = s.cells := rfl
@[simp] theorem raise_entries (f : Flag) : (s.raise f).entries = s.entries := rfl
@[simp] theorem raise_sites (f : Flag) : (s.raise f).sites = s.sites := rfl
@[simp] theorem raise_seam (f : Flag) : (s.raise f).seam = s.seam := rfl
@[simp] theorem raise_ports (f : Flag) : (s.raise f).ports = s.ports := rfl
@[simp] theorem raise_store (f : Flag) : (s.raise f).store = s.store := rfl
@[simp] theorem raise_lastTags (f : Flag) : (s.raise f).lastTags = s.lastTags := rfl
@[simp] theorem raise_pending (f : Flag) : (s.raise f).pending = s.pending := rfl

/-! ## setCell -/

@[simp] theorem setCell_mode (c : Cell) (r : CellRecord) : (s.setCell c r).mode = s.mode := rfl
@[simp] theorem setCell_loadPhase (c : Cell) (r : CellRecord) : (s.setCell c r).loadPhase = s.loadPhase := rfl
@[simp] theorem setCell_position (c : Cell) (r : CellRecord) : (s.setCell c r).position = s.position := rfl
@[simp] theorem setCell_cfg (c : Cell) (r : CellRecord) : (s.setCell c r).cfg = s.cfg := rfl
@[simp] theorem setCell_configDefault (c : Cell) (r : CellRecord) : (s.setCell c r).configDefault = s.configDefault := rfl
@[simp] theorem setCell_calibration (c : Cell) (r : CellRecord) : (s.setCell c r).calibration = s.calibration := rfl
@[simp] theorem setCell_calDefault (c : Cell) (r : CellRecord) : (s.setCell c r).calDefault = s.calDefault := rfl
@[simp] theorem setCell_flags (c : Cell) (r : CellRecord) : (s.setCell c r).flags = s.flags := rfl
@[simp] theorem setCell_intake (c : Cell) (r : CellRecord) : (s.setCell c r).intake = s.intake := rfl
@[simp] theorem setCell_render (c : Cell) (r : CellRecord) : (s.setCell c r).render = s.render := rfl
@[simp] theorem setCell_probe (c : Cell) (r : CellRecord) : (s.setCell c r).probe = s.probe := rfl
@[simp] theorem setCell_handed (c : Cell) (r : CellRecord) : (s.setCell c r).handed = s.handed := rfl
@[simp] theorem setCell_supply (c : Cell) (r : CellRecord) : (s.setCell c r).supply = s.supply := rfl
@[simp] theorem setCell_cells (c : Cell) (r : CellRecord) : (s.setCell c r).cells = s.cells.set c.index r := rfl
@[simp] theorem setCell_entries (c : Cell) (r : CellRecord) : (s.setCell c r).entries = s.entries := rfl
@[simp] theorem setCell_sites (c : Cell) (r : CellRecord) : (s.setCell c r).sites = s.sites := rfl
@[simp] theorem setCell_seam (c : Cell) (r : CellRecord) : (s.setCell c r).seam = s.seam := rfl
@[simp] theorem setCell_ports (c : Cell) (r : CellRecord) : (s.setCell c r).ports = s.ports := rfl
@[simp] theorem setCell_store (c : Cell) (r : CellRecord) : (s.setCell c r).store = s.store := rfl
@[simp] theorem setCell_lastTags (c : Cell) (r : CellRecord) : (s.setCell c r).lastTags = s.lastTags := rfl
@[simp] theorem setCell_pending (c : Cell) (r : CellRecord) : (s.setCell c r).pending = s.pending := rfl

/-! ## setSite -/

@[simp] theorem setSite_mode (t : Site) (r : SiteRecord) : (s.setSite t r).mode = s.mode := rfl
@[simp] theorem setSite_loadPhase (t : Site) (r : SiteRecord) : (s.setSite t r).loadPhase = s.loadPhase := rfl
@[simp] theorem setSite_position (t : Site) (r : SiteRecord) : (s.setSite t r).position = s.position := rfl
@[simp] theorem setSite_cfg (t : Site) (r : SiteRecord) : (s.setSite t r).cfg = s.cfg := rfl
@[simp] theorem setSite_configDefault (t : Site) (r : SiteRecord) : (s.setSite t r).configDefault = s.configDefault := rfl
@[simp] theorem setSite_calibration (t : Site) (r : SiteRecord) : (s.setSite t r).calibration = s.calibration := rfl
@[simp] theorem setSite_calDefault (t : Site) (r : SiteRecord) : (s.setSite t r).calDefault = s.calDefault := rfl
@[simp] theorem setSite_flags (t : Site) (r : SiteRecord) : (s.setSite t r).flags = s.flags := rfl
@[simp] theorem setSite_intake (t : Site) (r : SiteRecord) : (s.setSite t r).intake = s.intake := rfl
@[simp] theorem setSite_render (t : Site) (r : SiteRecord) : (s.setSite t r).render = s.render := rfl
@[simp] theorem setSite_probe (t : Site) (r : SiteRecord) : (s.setSite t r).probe = s.probe := rfl
@[simp] theorem setSite_handed (t : Site) (r : SiteRecord) : (s.setSite t r).handed = s.handed := rfl
@[simp] theorem setSite_supply (t : Site) (r : SiteRecord) : (s.setSite t r).supply = s.supply := rfl
@[simp] theorem setSite_cells (t : Site) (r : SiteRecord) : (s.setSite t r).cells = s.cells := rfl
@[simp] theorem setSite_entries (t : Site) (r : SiteRecord) : (s.setSite t r).entries = s.entries := rfl
@[simp] theorem setSite_sites (t : Site) (r : SiteRecord) : (s.setSite t r).sites = s.sites.set t.index r := rfl
@[simp] theorem setSite_seam (t : Site) (r : SiteRecord) : (s.setSite t r).seam = s.seam := rfl
@[simp] theorem setSite_ports (t : Site) (r : SiteRecord) : (s.setSite t r).ports = s.ports := rfl
@[simp] theorem setSite_store (t : Site) (r : SiteRecord) : (s.setSite t r).store = s.store := rfl
@[simp] theorem setSite_lastTags (t : Site) (r : SiteRecord) : (s.setSite t r).lastTags = s.lastTags := rfl
@[simp] theorem setSite_pending (t : Site) (r : SiteRecord) : (s.setSite t r).pending = s.pending := rfl

/-! ## setSiteState -/

@[simp] theorem setSiteState_mode (t : Site) (st : SiteState) : (s.setSiteState t st).mode = s.mode := rfl
@[simp] theorem setSiteState_loadPhase (t : Site) (st : SiteState) : (s.setSiteState t st).loadPhase = s.loadPhase := rfl
@[simp] theorem setSiteState_position (t : Site) (st : SiteState) : (s.setSiteState t st).position = s.position := rfl
@[simp] theorem setSiteState_cfg (t : Site) (st : SiteState) : (s.setSiteState t st).cfg = s.cfg := rfl
@[simp] theorem setSiteState_configDefault (t : Site) (st : SiteState) : (s.setSiteState t st).configDefault = s.configDefault := rfl
@[simp] theorem setSiteState_calibration (t : Site) (st : SiteState) : (s.setSiteState t st).calibration = s.calibration := rfl
@[simp] theorem setSiteState_calDefault (t : Site) (st : SiteState) : (s.setSiteState t st).calDefault = s.calDefault := rfl
@[simp] theorem setSiteState_flags (t : Site) (st : SiteState) : (s.setSiteState t st).flags = s.flags := rfl
@[simp] theorem setSiteState_intake (t : Site) (st : SiteState) : (s.setSiteState t st).intake = s.intake := rfl
@[simp] theorem setSiteState_render (t : Site) (st : SiteState) : (s.setSiteState t st).render = s.render := rfl
@[simp] theorem setSiteState_probe (t : Site) (st : SiteState) : (s.setSiteState t st).probe = s.probe := rfl
@[simp] theorem setSiteState_handed (t : Site) (st : SiteState) : (s.setSiteState t st).handed = s.handed := rfl
@[simp] theorem setSiteState_supply (t : Site) (st : SiteState) : (s.setSiteState t st).supply = s.supply := rfl
@[simp] theorem setSiteState_cells (t : Site) (st : SiteState) : (s.setSiteState t st).cells = s.cells := rfl
@[simp] theorem setSiteState_entries (t : Site) (st : SiteState) : (s.setSiteState t st).entries = s.entries := rfl
@[simp] theorem setSiteState_sites (t : Site) (st : SiteState) : (s.setSiteState t st).sites = s.sites.set t.index { s.site t with state := st } := rfl
@[simp] theorem setSiteState_seam (t : Site) (st : SiteState) : (s.setSiteState t st).seam = s.seam := rfl
@[simp] theorem setSiteState_ports (t : Site) (st : SiteState) : (s.setSiteState t st).ports = s.ports := rfl
@[simp] theorem setSiteState_store (t : Site) (st : SiteState) : (s.setSiteState t st).store = s.store := rfl
@[simp] theorem setSiteState_lastTags (t : Site) (st : SiteState) : (s.setSiteState t st).lastTags = s.lastTags := rfl
@[simp] theorem setSiteState_pending (t : Site) (st : SiteState) : (s.setSiteState t st).pending = s.pending := rfl

/-! ## setPort -/

@[simp] theorem setPort_mode (p : PortId) (port : Port) : (s.setPort p port).mode = s.mode := rfl
@[simp] theorem setPort_loadPhase (p : PortId) (port : Port) : (s.setPort p port).loadPhase = s.loadPhase := rfl
@[simp] theorem setPort_position (p : PortId) (port : Port) : (s.setPort p port).position = s.position := rfl
@[simp] theorem setPort_cfg (p : PortId) (port : Port) : (s.setPort p port).cfg = s.cfg := rfl
@[simp] theorem setPort_configDefault (p : PortId) (port : Port) : (s.setPort p port).configDefault = s.configDefault := rfl
@[simp] theorem setPort_calibration (p : PortId) (port : Port) : (s.setPort p port).calibration = s.calibration := rfl
@[simp] theorem setPort_calDefault (p : PortId) (port : Port) : (s.setPort p port).calDefault = s.calDefault := rfl
@[simp] theorem setPort_flags (p : PortId) (port : Port) : (s.setPort p port).flags = s.flags := rfl
@[simp] theorem setPort_intake (p : PortId) (port : Port) : (s.setPort p port).intake = s.intake := rfl
@[simp] theorem setPort_render (p : PortId) (port : Port) : (s.setPort p port).render = s.render := rfl
@[simp] theorem setPort_probe (p : PortId) (port : Port) : (s.setPort p port).probe = s.probe := rfl
@[simp] theorem setPort_handed (p : PortId) (port : Port) : (s.setPort p port).handed = s.handed := rfl
@[simp] theorem setPort_supply (p : PortId) (port : Port) : (s.setPort p port).supply = s.supply := rfl
@[simp] theorem setPort_cells (p : PortId) (port : Port) : (s.setPort p port).cells = s.cells := rfl
@[simp] theorem setPort_entries (p : PortId) (port : Port) : (s.setPort p port).entries = s.entries := rfl
@[simp] theorem setPort_sites (p : PortId) (port : Port) : (s.setPort p port).sites = s.sites := rfl
@[simp] theorem setPort_seam (p : PortId) (port : Port) : (s.setPort p port).seam = s.seam := rfl
@[simp] theorem setPort_ports (p : PortId) (port : Port) : (s.setPort p port).ports = s.ports.set p port := rfl
@[simp] theorem setPort_store (p : PortId) (port : Port) : (s.setPort p port).store = s.store := rfl
@[simp] theorem setPort_lastTags (p : PortId) (port : Port) : (s.setPort p port).lastTags = s.lastTags := rfl
@[simp] theorem setPort_pending (p : PortId) (port : Port) : (s.setPort p port).pending = s.pending := rfl

/-! ## setNeighbour -/

@[simp] theorem setNeighbour_mode (d : Dir) (nb : Option Neighbour) : (s.setNeighbour d nb).mode = s.mode := rfl
@[simp] theorem setNeighbour_loadPhase (d : Dir) (nb : Option Neighbour) : (s.setNeighbour d nb).loadPhase = s.loadPhase := rfl
@[simp] theorem setNeighbour_position (d : Dir) (nb : Option Neighbour) : (s.setNeighbour d nb).position = s.position := rfl
@[simp] theorem setNeighbour_cfg (d : Dir) (nb : Option Neighbour) : (s.setNeighbour d nb).cfg = s.cfg := rfl
@[simp] theorem setNeighbour_configDefault (d : Dir) (nb : Option Neighbour) : (s.setNeighbour d nb).configDefault = s.configDefault := rfl
@[simp] theorem setNeighbour_calibration (d : Dir) (nb : Option Neighbour) : (s.setNeighbour d nb).calibration = s.calibration := rfl
@[simp] theorem setNeighbour_calDefault (d : Dir) (nb : Option Neighbour) : (s.setNeighbour d nb).calDefault = s.calDefault := rfl
@[simp] theorem setNeighbour_flags (d : Dir) (nb : Option Neighbour) : (s.setNeighbour d nb).flags = s.flags := rfl
@[simp] theorem setNeighbour_intake (d : Dir) (nb : Option Neighbour) : (s.setNeighbour d nb).intake = s.intake := rfl
@[simp] theorem setNeighbour_render (d : Dir) (nb : Option Neighbour) : (s.setNeighbour d nb).render = s.render := rfl
@[simp] theorem setNeighbour_probe (d : Dir) (nb : Option Neighbour) : (s.setNeighbour d nb).probe = s.probe := rfl
@[simp] theorem setNeighbour_handed (d : Dir) (nb : Option Neighbour) : (s.setNeighbour d nb).handed = s.handed := rfl
@[simp] theorem setNeighbour_supply (d : Dir) (nb : Option Neighbour) : (s.setNeighbour d nb).supply = s.supply := rfl
@[simp] theorem setNeighbour_cells (d : Dir) (nb : Option Neighbour) : (s.setNeighbour d nb).cells = s.cells := rfl
@[simp] theorem setNeighbour_entries (d : Dir) (nb : Option Neighbour) : (s.setNeighbour d nb).entries = s.entries := rfl
@[simp] theorem setNeighbour_sites (d : Dir) (nb : Option Neighbour) : (s.setNeighbour d nb).sites = s.sites := rfl
@[simp] theorem setNeighbour_seam (d : Dir) (nb : Option Neighbour) : (s.setNeighbour d nb).seam = { s.seam with neighbours := s.seam.neighbours.set d nb } := rfl
@[simp] theorem setNeighbour_ports (d : Dir) (nb : Option Neighbour) : (s.setNeighbour d nb).ports = s.ports := rfl
@[simp] theorem setNeighbour_store (d : Dir) (nb : Option Neighbour) : (s.setNeighbour d nb).store = s.store := rfl
@[simp] theorem setNeighbour_lastTags (d : Dir) (nb : Option Neighbour) : (s.setNeighbour d nb).lastTags = s.lastTags := rfl
@[simp] theorem setNeighbour_pending (d : Dir) (nb : Option Neighbour) : (s.setNeighbour d nb).pending = s.pending := rfl

/-! ## setEntries -/

@[simp] theorem setEntries_mode (es : List Entry) : (s.setEntries es).mode = s.mode := rfl
@[simp] theorem setEntries_loadPhase (es : List Entry) : (s.setEntries es).loadPhase = s.loadPhase := rfl
@[simp] theorem setEntries_position (es : List Entry) : (s.setEntries es).position = s.position := rfl
@[simp] theorem setEntries_cfg (es : List Entry) : (s.setEntries es).cfg = s.cfg := rfl
@[simp] theorem setEntries_configDefault (es : List Entry) : (s.setEntries es).configDefault = s.configDefault := rfl
@[simp] theorem setEntries_calibration (es : List Entry) : (s.setEntries es).calibration = s.calibration := rfl
@[simp] theorem setEntries_calDefault (es : List Entry) : (s.setEntries es).calDefault = s.calDefault := rfl
@[simp] theorem setEntries_flags (es : List Entry) : (s.setEntries es).flags = s.flags := rfl
@[simp] theorem setEntries_intake (es : List Entry) : (s.setEntries es).intake = s.intake := rfl
@[simp] theorem setEntries_render (es : List Entry) : (s.setEntries es).render = s.render := rfl
@[simp] theorem setEntries_probe (es : List Entry) : (s.setEntries es).probe = s.probe := rfl
@[simp] theorem setEntries_handed (es : List Entry) : (s.setEntries es).handed = s.handed := rfl
@[simp] theorem setEntries_supply (es : List Entry) : (s.setEntries es).supply = s.supply := rfl
@[simp] theorem setEntries_cells (es : List Entry) : (s.setEntries es).cells = s.cells := rfl
@[simp] theorem setEntries_entries (es : List Entry) : (s.setEntries es).entries = es := rfl
@[simp] theorem setEntries_sites (es : List Entry) : (s.setEntries es).sites = s.sites := rfl
@[simp] theorem setEntries_seam (es : List Entry) : (s.setEntries es).seam = s.seam := rfl
@[simp] theorem setEntries_ports (es : List Entry) : (s.setEntries es).ports = s.ports := rfl
@[simp] theorem setEntries_store (es : List Entry) : (s.setEntries es).store = s.store := rfl
@[simp] theorem setEntries_lastTags (es : List Entry) : (s.setEntries es).lastTags = s.lastTags := rfl
@[simp] theorem setEntries_pending (es : List Entry) : (s.setEntries es).pending = s.pending := rfl

/-! ## markEdge -/

@[simp] theorem markEdge_mode (edge : Edge) (p : Fin 32) (b : Bool) : (s.markEdge edge p b).mode = s.mode := rfl
@[simp] theorem markEdge_loadPhase (edge : Edge) (p : Fin 32) (b : Bool) : (s.markEdge edge p b).loadPhase = s.loadPhase := rfl
@[simp] theorem markEdge_position (edge : Edge) (p : Fin 32) (b : Bool) : (s.markEdge edge p b).position = s.position := rfl
@[simp] theorem markEdge_cfg (edge : Edge) (p : Fin 32) (b : Bool) : (s.markEdge edge p b).cfg = s.cfg := rfl
@[simp] theorem markEdge_configDefault (edge : Edge) (p : Fin 32) (b : Bool) : (s.markEdge edge p b).configDefault = s.configDefault := rfl
@[simp] theorem markEdge_calibration (edge : Edge) (p : Fin 32) (b : Bool) : (s.markEdge edge p b).calibration = s.calibration := rfl
@[simp] theorem markEdge_calDefault (edge : Edge) (p : Fin 32) (b : Bool) : (s.markEdge edge p b).calDefault = s.calDefault := rfl
@[simp] theorem markEdge_flags (edge : Edge) (p : Fin 32) (b : Bool) : (s.markEdge edge p b).flags = s.flags := rfl
@[simp] theorem markEdge_intake (edge : Edge) (p : Fin 32) (b : Bool) : (s.markEdge edge p b).intake = s.intake := rfl
@[simp] theorem markEdge_render (edge : Edge) (p : Fin 32) (b : Bool) : (s.markEdge edge p b).render = s.render := rfl
@[simp] theorem markEdge_probe (edge : Edge) (p : Fin 32) (b : Bool) : (s.markEdge edge p b).probe = s.probe := rfl
@[simp] theorem markEdge_handed (edge : Edge) (p : Fin 32) (b : Bool) : (s.markEdge edge p b).handed = s.handed := rfl
@[simp] theorem markEdge_supply (edge : Edge) (p : Fin 32) (b : Bool) : (s.markEdge edge p b).supply = s.supply := rfl
@[simp] theorem markEdge_cells (edge : Edge) (p : Fin 32) (b : Bool) : (s.markEdge edge p b).cells = s.cells := rfl
@[simp] theorem markEdge_entries (edge : Edge) (p : Fin 32) (b : Bool) : (s.markEdge edge p b).entries = s.entries := rfl
@[simp] theorem markEdge_sites (edge : Edge) (p : Fin 32) (b : Bool) : (s.markEdge edge p b).sites = s.sites := rfl
@[simp] theorem markEdge_seam (edge : Edge) (p : Fin 32) (b : Bool) : (s.markEdge edge p b).seam = { s.seam with filledEdges := s.seam.filledEdges.set edge ((s.seam.filledEdges.get edge).set p b) } := rfl
@[simp] theorem markEdge_ports (edge : Edge) (p : Fin 32) (b : Bool) : (s.markEdge edge p b).ports = s.ports := rfl
@[simp] theorem markEdge_store (edge : Edge) (p : Fin 32) (b : Bool) : (s.markEdge edge p b).store = s.store := rfl
@[simp] theorem markEdge_lastTags (edge : Edge) (p : Fin 32) (b : Bool) : (s.markEdge edge p b).lastTags = s.lastTags := rfl
@[simp] theorem markEdge_pending (edge : Edge) (p : Fin 32) (b : Bool) : (s.markEdge edge p b).pending = s.pending := rfl

/-! ## changeCell -/

@[simp] theorem changeCell_mode (c : Cell) (f : CellRecord → CellRecord) : (s.changeCell c f).mode = s.mode := rfl
@[simp] theorem changeCell_loadPhase (c : Cell) (f : CellRecord → CellRecord) : (s.changeCell c f).loadPhase = s.loadPhase := rfl
@[simp] theorem changeCell_position (c : Cell) (f : CellRecord → CellRecord) : (s.changeCell c f).position = s.position := rfl
@[simp] theorem changeCell_cfg (c : Cell) (f : CellRecord → CellRecord) : (s.changeCell c f).cfg = s.cfg := rfl
@[simp] theorem changeCell_configDefault (c : Cell) (f : CellRecord → CellRecord) : (s.changeCell c f).configDefault = s.configDefault := rfl
@[simp] theorem changeCell_calibration (c : Cell) (f : CellRecord → CellRecord) : (s.changeCell c f).calibration = s.calibration := rfl
@[simp] theorem changeCell_calDefault (c : Cell) (f : CellRecord → CellRecord) : (s.changeCell c f).calDefault = s.calDefault := rfl
@[simp] theorem changeCell_flags (c : Cell) (f : CellRecord → CellRecord) : (s.changeCell c f).flags = s.flags := rfl
@[simp] theorem changeCell_intake (c : Cell) (f : CellRecord → CellRecord) : (s.changeCell c f).intake = s.intake := rfl
@[simp] theorem changeCell_render (c : Cell) (f : CellRecord → CellRecord) : (s.changeCell c f).render = s.render := rfl
@[simp] theorem changeCell_probe (c : Cell) (f : CellRecord → CellRecord) : (s.changeCell c f).probe = s.probe := rfl
@[simp] theorem changeCell_handed (c : Cell) (f : CellRecord → CellRecord) : (s.changeCell c f).handed = s.handed := rfl
@[simp] theorem changeCell_supply (c : Cell) (f : CellRecord → CellRecord) : (s.changeCell c f).supply = s.supply := rfl
@[simp] theorem changeCell_cells (c : Cell) (f : CellRecord → CellRecord) : (s.changeCell c f).cells = s.cells.set c.index (f (s.cell c)) := rfl
@[simp] theorem changeCell_entries (c : Cell) (f : CellRecord → CellRecord) : (s.changeCell c f).entries = s.entries := rfl
@[simp] theorem changeCell_sites (c : Cell) (f : CellRecord → CellRecord) : (s.changeCell c f).sites = s.sites := rfl
@[simp] theorem changeCell_seam (c : Cell) (f : CellRecord → CellRecord) : (s.changeCell c f).seam = s.seam := rfl
@[simp] theorem changeCell_ports (c : Cell) (f : CellRecord → CellRecord) : (s.changeCell c f).ports = s.ports := rfl
@[simp] theorem changeCell_store (c : Cell) (f : CellRecord → CellRecord) : (s.changeCell c f).store = s.store := rfl
@[simp] theorem changeCell_lastTags (c : Cell) (f : CellRecord → CellRecord) : (s.changeCell c f).lastTags = s.lastTags := rfl
@[simp] theorem changeCell_pending (c : Cell) (f : CellRecord → CellRecord) : (s.changeCell c f).pending = s.pending := rfl

/-! ## setLastTag -/

@[simp] theorem setLastTag_mode (p : PortId) (tag : Byte) : (s.setLastTag p tag).mode = s.mode := rfl
@[simp] theorem setLastTag_loadPhase (p : PortId) (tag : Byte) : (s.setLastTag p tag).loadPhase = s.loadPhase := rfl
@[simp] theorem setLastTag_position (p : PortId) (tag : Byte) : (s.setLastTag p tag).position = s.position := rfl
@[simp] theorem setLastTag_cfg (p : PortId) (tag : Byte) : (s.setLastTag p tag).cfg = s.cfg := rfl
@[simp] theorem setLastTag_configDefault (p : PortId) (tag : Byte) : (s.setLastTag p tag).configDefault = s.configDefault := rfl
@[simp] theorem setLastTag_calibration (p : PortId) (tag : Byte) : (s.setLastTag p tag).calibration = s.calibration := rfl
@[simp] theorem setLastTag_calDefault (p : PortId) (tag : Byte) : (s.setLastTag p tag).calDefault = s.calDefault := rfl
@[simp] theorem setLastTag_flags (p : PortId) (tag : Byte) : (s.setLastTag p tag).flags = s.flags := rfl
@[simp] theorem setLastTag_intake (p : PortId) (tag : Byte) : (s.setLastTag p tag).intake = s.intake := rfl
@[simp] theorem setLastTag_render (p : PortId) (tag : Byte) : (s.setLastTag p tag).render = s.render := rfl
@[simp] theorem setLastTag_probe (p : PortId) (tag : Byte) : (s.setLastTag p tag).probe = s.probe := rfl
@[simp] theorem setLastTag_handed (p : PortId) (tag : Byte) : (s.setLastTag p tag).handed = s.handed := rfl
@[simp] theorem setLastTag_supply (p : PortId) (tag : Byte) : (s.setLastTag p tag).supply = s.supply := rfl
@[simp] theorem setLastTag_cells (p : PortId) (tag : Byte) : (s.setLastTag p tag).cells = s.cells := rfl
@[simp] theorem setLastTag_entries (p : PortId) (tag : Byte) : (s.setLastTag p tag).entries = s.entries := rfl
@[simp] theorem setLastTag_sites (p : PortId) (tag : Byte) : (s.setLastTag p tag).sites = s.sites := rfl
@[simp] theorem setLastTag_seam (p : PortId) (tag : Byte) : (s.setLastTag p tag).seam = s.seam := rfl
@[simp] theorem setLastTag_ports (p : PortId) (tag : Byte) : (s.setLastTag p tag).ports = s.ports := rfl
@[simp] theorem setLastTag_store (p : PortId) (tag : Byte) : (s.setLastTag p tag).store = s.store := rfl
@[simp] theorem setLastTag_lastTags (p : PortId) (tag : Byte) : (s.setLastTag p tag).lastTags = s.lastTags.set p (some tag) := rfl
@[simp] theorem setLastTag_pending (p : PortId) (tag : Byte) : (s.setLastTag p tag).pending = s.pending := rfl

/-! ## setSlot -/

@[simp] theorem setSlot_mode (slot : Fin 128) (v : Slot) : (s.setSlot slot v).mode = s.mode := rfl
@[simp] theorem setSlot_loadPhase (slot : Fin 128) (v : Slot) : (s.setSlot slot v).loadPhase = s.loadPhase := rfl
@[simp] theorem setSlot_position (slot : Fin 128) (v : Slot) : (s.setSlot slot v).position = s.position := rfl
@[simp] theorem setSlot_cfg (slot : Fin 128) (v : Slot) : (s.setSlot slot v).cfg = s.cfg := rfl
@[simp] theorem setSlot_configDefault (slot : Fin 128) (v : Slot) : (s.setSlot slot v).configDefault = s.configDefault := rfl
@[simp] theorem setSlot_calibration (slot : Fin 128) (v : Slot) : (s.setSlot slot v).calibration = s.calibration := rfl
@[simp] theorem setSlot_calDefault (slot : Fin 128) (v : Slot) : (s.setSlot slot v).calDefault = s.calDefault := rfl
@[simp] theorem setSlot_flags (slot : Fin 128) (v : Slot) : (s.setSlot slot v).flags = s.flags := rfl
@[simp] theorem setSlot_intake (slot : Fin 128) (v : Slot) : (s.setSlot slot v).intake = s.intake := rfl
@[simp] theorem setSlot_render (slot : Fin 128) (v : Slot) : (s.setSlot slot v).render = s.render := rfl
@[simp] theorem setSlot_probe (slot : Fin 128) (v : Slot) : (s.setSlot slot v).probe = s.probe := rfl
@[simp] theorem setSlot_handed (slot : Fin 128) (v : Slot) : (s.setSlot slot v).handed = s.handed := rfl
@[simp] theorem setSlot_supply (slot : Fin 128) (v : Slot) : (s.setSlot slot v).supply = s.supply := rfl
@[simp] theorem setSlot_cells (slot : Fin 128) (v : Slot) : (s.setSlot slot v).cells = s.cells := rfl
@[simp] theorem setSlot_entries (slot : Fin 128) (v : Slot) : (s.setSlot slot v).entries = s.entries := rfl
@[simp] theorem setSlot_sites (slot : Fin 128) (v : Slot) : (s.setSlot slot v).sites = s.sites := rfl
@[simp] theorem setSlot_seam (slot : Fin 128) (v : Slot) : (s.setSlot slot v).seam = s.seam := rfl
@[simp] theorem setSlot_ports (slot : Fin 128) (v : Slot) : (s.setSlot slot v).ports = s.ports := rfl
@[simp] theorem setSlot_store (slot : Fin 128) (v : Slot) : (s.setSlot slot v).store = { s.store with slots := s.store.slots.set slot v } := rfl
@[simp] theorem setSlot_lastTags (slot : Fin 128) (v : Slot) : (s.setSlot slot v).lastTags = s.lastTags := rfl
@[simp] theorem setSlot_pending (slot : Fin 128) (v : Slot) : (s.setSlot slot v).pending = s.pending := rfl

/-! ## writeRemedy -/

@[simp] theorem writeRemedy_mode (c : Cell) (r : Remedy) : (s.writeRemedy c r).mode = s.mode := rfl
@[simp] theorem writeRemedy_loadPhase (c : Cell) (r : Remedy) : (s.writeRemedy c r).loadPhase = s.loadPhase := rfl
@[simp] theorem writeRemedy_position (c : Cell) (r : Remedy) : (s.writeRemedy c r).position = s.position := rfl
@[simp] theorem writeRemedy_cfg (c : Cell) (r : Remedy) : (s.writeRemedy c r).cfg = s.cfg := rfl
@[simp] theorem writeRemedy_configDefault (c : Cell) (r : Remedy) : (s.writeRemedy c r).configDefault = s.configDefault := rfl
@[simp] theorem writeRemedy_calibration (c : Cell) (r : Remedy) : (s.writeRemedy c r).calibration = s.calibration := rfl
@[simp] theorem writeRemedy_calDefault (c : Cell) (r : Remedy) : (s.writeRemedy c r).calDefault = s.calDefault := rfl
@[simp] theorem writeRemedy_flags (c : Cell) (r : Remedy) : (s.writeRemedy c r).flags = s.flags := rfl
@[simp] theorem writeRemedy_intake (c : Cell) (r : Remedy) : (s.writeRemedy c r).intake = s.intake := rfl
@[simp] theorem writeRemedy_render (c : Cell) (r : Remedy) : (s.writeRemedy c r).render = s.render := rfl
@[simp] theorem writeRemedy_probe (c : Cell) (r : Remedy) : (s.writeRemedy c r).probe = s.probe := rfl
@[simp] theorem writeRemedy_handed (c : Cell) (r : Remedy) : (s.writeRemedy c r).handed = s.handed := rfl
@[simp] theorem writeRemedy_supply (c : Cell) (r : Remedy) : (s.writeRemedy c r).supply = s.supply := rfl
@[simp] theorem writeRemedy_cells (c : Cell) (r : Remedy) : (s.writeRemedy c r).cells = s.cells := rfl
@[simp] theorem writeRemedy_entries (c : Cell) (r : Remedy) : (s.writeRemedy c r).entries = changeEntry c (fun e => e.withRemedy r) s.entries := rfl
@[simp] theorem writeRemedy_sites (c : Cell) (r : Remedy) : (s.writeRemedy c r).sites = s.sites := rfl
@[simp] theorem writeRemedy_seam (c : Cell) (r : Remedy) : (s.writeRemedy c r).seam = s.seam := rfl
@[simp] theorem writeRemedy_ports (c : Cell) (r : Remedy) : (s.writeRemedy c r).ports = s.ports := rfl
@[simp] theorem writeRemedy_store (c : Cell) (r : Remedy) : (s.writeRemedy c r).store = s.store := rfl
@[simp] theorem writeRemedy_lastTags (c : Cell) (r : Remedy) : (s.writeRemedy c r).lastTags = s.lastTags := rfl
@[simp] theorem writeRemedy_pending (c : Cell) (r : Remedy) : (s.writeRemedy c r).pending = s.pending := rfl

end Sys2Proof.Machine
end

