-- ==== Sys2Proof/Laws/Tables.lean ====
section
/-! SUPPORT. Reading after writing: the fixed tables, the tables by direction, edge and port, and the indices that name cells and sites. -/

namespace Sys2Proof

namespace Tbl

variable {n : Nat} {α β : Type}

@[ext] theorem ext_get {t u : Tbl n α} (h : ∀ i, t.get i = u.get i) : t = u := by
  obtain ⟨a, ha⟩ := t
  obtain ⟨b, hb⟩ := u
  have : a = b := by
    apply List.ext_getElem (by rw [ha, hb])
    intro i h1 h2
    exact h ⟨i, ha ▸ h1⟩
  subst this
  rfl

@[simp] theorem get_set_same (t : Tbl n α) (i : Fin n) (a : α) : (t.set i a).get i = a := by
  simp [get, set]

theorem get_set (t : Tbl n α) (i j : Fin n) (a : α) :
    (t.set i a).get j = if i = j then a else t.get j := by
  simp [get, set, List.getElem_set, Fin.ext_iff]

theorem get_set_other (t : Tbl n α) {i j : Fin n} (a : α) (h : i ≠ j) : (t.set i a).get j = t.get j := by
  simp [get_set, h]

@[simp] theorem get_fill (a : α) (i : Fin n) : (fill n a).get i = a := by
  simp [get, fill]

@[simp] theorem get_ofFn (f : Fin n → α) (i : Fin n) : (ofFn f).get i = f i := by
  simp [get, ofFn]

@[simp] theorem get_map (f : α → β) (t : Tbl n α) (i : Fin n) : (t.map f).get i = f (t.get i) := by
  simp [get, map]

@[simp] theorem set_set (t : Tbl n α) (i : Fin n) (a b : α) : (t.set i a).set i b = t.set i b := by
  simp [set]

@[simp] theorem set_get (t : Tbl n α) (i : Fin n) : t.set i (t.get i) = t := by
  ext j
  rw [get_set]
  split
  · rename_i h
    rw [h]
  · rfl

theorem mem_data_iff (t : Tbl n α) (a : α) : a ∈ t.data ↔ ∃ i, t.get i = a := by
  rw [List.mem_iff_getElem]
  constructor
  · rintro ⟨i, h, e⟩
    exact ⟨⟨i, t.len ▸ h⟩, e⟩
  · rintro ⟨i, e⟩
    exact ⟨i.val, by rw [t.len]; exact i.isLt, e⟩

/-- A table's list is its elements place by place. -/
theorem data_eq_map (t : Tbl n α) : t.data = (List.finRange n).map t.get := by
  apply List.ext_getElem
  · simp [t.len]
  · intro i _ _
    simp [get]

/-- Counting in a table's list is counting its places. -/
theorem countP_data (t : Tbl n α) (P : α → Bool) :
    t.data.countP P = (List.finRange n).countP fun i => P (t.get i) := by
  rw [data_eq_map, List.countP_map]
  rfl

/-- A test met somewhere in a table's list is met at some place. -/
theorem any_data (t : Tbl n α) (P : α → Bool) : t.data.any P = (List.finRange n).any fun i => P (t.get i) := by
  rw [data_eq_map, List.any_map]
  rfl

end Tbl

namespace Cell

@[simp] theorem ofIndex_index (c : Cell) : Cell.ofIndex c.index = c := by
  obtain ⟨⟨x, hx⟩, ⟨y, hy⟩⟩ := c
  simp only [Cell.ofIndex, Cell.index, Cell.mk.injEq, Fin.mk.injEq]
  omega

@[simp] theorem index_ofIndex (n : Fin 1024) : (Cell.ofIndex n).index = n := by
  simp only [Cell.ofIndex, Cell.index, Fin.ext_iff]
  omega

@[simp] theorem index_inj (c d : Cell) : c.index = d.index ↔ c = d :=
  ⟨fun h => by rw [← ofIndex_index c, h, ofIndex_index], fun h => by rw [h]⟩

end Cell

namespace Site

@[simp] theorem ofIndex_index (s : Site) : Site.ofIndex s.index = s := by
  obtain ⟨⟨i, hi⟩, ⟨j, hj⟩⟩ := s
  simp only [Site.ofIndex, Site.index, Site.mk.injEq, Fin.mk.injEq]
  omega

@[simp] theorem index_ofIndex (n : Fin 256) : (Site.ofIndex n).index = n := by
  simp only [Site.ofIndex, Site.index, Fin.ext_iff]
  omega

@[simp] theorem index_inj (s t : Site) : s.index = t.index ↔ s = t :=
  ⟨fun h => by rw [← ofIndex_index s, h, ofIndex_index], fun h => by rw [h]⟩

end Site

namespace Machine

theorem mem_allSites (site : Site) : site ∈ allSites :=
  List.mem_map.mpr ⟨site.index, List.mem_finRange _, Site.ofIndex_index site⟩

variable {α β : Type}

@[simp] theorem PerDir.get_set_same (t : PerDir α) (d : Dir) (v : α) : (t.set d v).get d = v := by
  cases d <;> rfl

theorem PerDir.get_set (t : PerDir α) (d d' : Dir) (v : α) :
    (t.set d v).get d' = if d = d' then v else t.get d' := by
  cases d <;> cases d' <;> rfl

@[simp] theorem PerDir.get_map (f : α → β) (t : PerDir α) (d : Dir) : (t.map f).get d = f (t.get d) := by
  cases d <;> rfl

@[simp] theorem PerEdge.get_set_same (t : PerEdge α) (d : Edge) (v : α) : (t.set d v).get d = v := by
  cases d <;> rfl

theorem PerEdge.get_set (t : PerEdge α) (d d' : Edge) (v : α) :
    (t.set d v).get d' = if d = d' then v else t.get d' := by
  cases d <;> cases d' <;> rfl

@[simp] theorem PerPort.get_set_same (t : PerPort α) (p : PortId) (v : α) : (t.set p v).get p = v := by
  cases p <;> rfl

theorem PerPort.get_set (t : PerPort α) (p p' : PortId) (v : α) :
    (t.set p v).get p' = if p = p' then v else t.get p' := by
  cases p <;> cases p' <;> rfl

@[simp] theorem PerPort.get_map (f : α → β) (t : PerPort α) (p : PortId) : (t.map f).get p = f (t.get p) := by
  cases p <;> rfl

@[simp] theorem PerPort.set_get (t : PerPort α) (p : PortId) : t.set p (t.get p) = t := by
  cases p <;> rfl

@[simp] theorem PerPort.set_set (t : PerPort α) (p : PortId) (v w : α) : (t.set p v).set p w = t.set p w := by
  cases p <;> rfl

theorem PerPort.forall_get {P : α → Prop} (t : PerPort α) : (∀ p, P (t.get p)) ↔ P t.a ∧ P t.b :=
  ⟨fun h => ⟨h .a, h .b⟩, fun h p => by cases p <;> [exact h.1; exact h.2]⟩

variable (s : State)

/-! ## One record through the named updates -/

theorem cell_setCell (c d : Cell) (r : CellRecord) : (s.setCell c r).cell d = if c = d then r else s.cell d := by
  simp [State.cell, Tbl.get_set]

@[simp] theorem cell_setCell_same (c : Cell) (r : CellRecord) : (s.setCell c r).cell c = r := by
  simp [cell_setCell]

theorem cell_changeCell (c d : Cell) (f : CellRecord → CellRecord) :
    (s.changeCell c f).cell d = if c = d then f (s.cell c) else s.cell d := cell_setCell s c d _

@[simp] theorem cell_changeCell_same (c : Cell) (f : CellRecord → CellRecord) :
    (s.changeCell c f).cell c = f (s.cell c) := by simp [cell_changeCell]

theorem site_setSite (a b : Site) (r : SiteRecord) : (s.setSite a r).site b = if a = b then r else s.site b := by
  simp [State.site, Tbl.get_set]

@[simp] theorem site_setSite_same (a : Site) (r : SiteRecord) : (s.setSite a r).site a = r := by
  simp [site_setSite]

theorem site_setSiteState (a b : Site) (st : SiteState) :
    (s.setSiteState a st).site b = if a = b then { s.site a with state := st } else s.site b :=
  site_setSite s a b _

@[simp] theorem site_setSiteState_same (a : Site) (st : SiteState) :
    (s.setSiteState a st).site a = { s.site a with state := st } := by simp [site_setSiteState]

theorem port_setPort (p q : PortId) (port : Port) :
    (s.setPort p port).port q = if p = q then port else s.port q := by
  simp [State.port, PerPort.get_set]

@[simp] theorem port_setPort_same (p : PortId) (port : Port) : (s.setPort p port).port p = port := by
  simp [port_setPort]

theorem neighbour_setNeighbour (d d' : Dir) (nb : Option Neighbour) :
    (s.setNeighbour d nb).neighbour d' = if d = d' then nb else s.neighbour d' := by
  simp [State.neighbour, PerDir.get_set]

@[simp] theorem neighbour_setNeighbour_same (d : Dir) (nb : Option Neighbour) :
    (s.setNeighbour d nb).neighbour d = nb := by simp [neighbour_setNeighbour]

/-! ## Entries -/

@[simp] theorem withRemedy_cell (e : Entry) (r : Remedy) : (e.withRemedy r).cell = e.cell := by
  simp only [Entry.withRemedy]; split <;> rfl

@[simp] theorem withRemedy_isRetired (e : Entry) (r : Remedy) : (e.withRemedy r).isRetired = e.isRetired := by
  obtain ⟨c, o, b⟩ := e
  cases b <;> rfl

@[simp] theorem withPersisted_cell (e : Entry) (b : Bool) : (e.withPersisted b).cell = e.cell := by
  simp only [Entry.withPersisted]; split <;> rfl

@[simp] theorem withPersisted_isRetired (e : Entry) (b : Bool) : (e.withPersisted b).isRetired = e.isRetired := by
  obtain ⟨c, o, b'⟩ := e
  cases b' <;> rfl

@[simp] theorem withPersisted_remedy (e : Entry) (b : Bool) : (e.withPersisted b).remedy = e.remedy := by
  obtain ⟨c, o, b'⟩ := e
  cases b' <;> rfl

@[simp] theorem withGains_cell (e : Entry) (g : Rgb Nat) : (e.withGains g).cell = e.cell := by
  simp only [Entry.withGains]; split <;> rfl

@[simp] theorem withGains_isRetired (e : Entry) (g : Rgb Nat) : (e.withGains g).isRetired = e.isRetired := by
  obtain ⟨c, o, b⟩ := e
  cases b <;> rfl

@[simp] theorem converted_cell (e : Entry) (o : Origin) (n : Nat) : (e.converted o n).cell = e.cell := by
  simp only [Entry.converted]; split <;> rfl

theorem withRemedy_remedy (e : Entry) (r : Remedy) (h : e.isRetired = true) : (e.withRemedy r).remedy = some r := by
  obtain ⟨c, o, b⟩ := e
  cases b <;> simp_all [Entry.withRemedy, Entry.remedy, Entry.isRetired]

/-- A change of the entry of one cell keeps every cell where it stands. -/
theorem changeEntry_cells (c : Cell) (f : Entry → Entry) (hf : ∀ e, (f e).cell = e.cell) (es : List Entry) :
    (changeEntry c f es).map Entry.cell = es.map Entry.cell := by
  simp only [changeEntry, List.map_map]
  apply List.map_congr_left
  intro e _
  simp only [Function.comp_apply]
  split <;> simp [hf]

@[simp] theorem changeEntry_length (c : Cell) (f : Entry → Entry) (es : List Entry) :
    (changeEntry c f es).length = es.length := by simp [changeEntry]

/-- The entry of a cell after the entry of a cell is changed in its place. -/
theorem find_changeEntry (c d : Cell) (f : Entry → Entry) (hf : ∀ e, (f e).cell = e.cell) (es : List Entry) :
    (changeEntry c f es).find? (fun e => e.cell == d)
      = (es.find? fun e => e.cell == d).map fun e => if c = d then f e else e := by
  induction es with
  | nil => rfl
  | cons e es ih =>
    simp only [changeEntry, List.map_cons, List.find?_cons] at ih ⊢
    by_cases h : e.cell = d
    · by_cases h' : e.cell = c
      · have : c = d := by rw [← h', h]
        simp [hf, h, this]
      · have : ¬ c = d := fun q => h' (by rw [h, q])
        simp [h, this, Ne.symm this]
    · have hfe : ((if (e.cell == c) = true then f e else e).cell == d) = false := by
        split <;> simp [hf, h]
      have he : (e.cell == d) = false := by simp [h]
      rw [hfe, he]
      exact ih

theorem entryOf_setEntries_change (c d : Cell) (f : Entry → Entry) (hf : ∀ e, (f e).cell = e.cell) :
    (s.setEntries (changeEntry c f s.entries)).entryOf d
      = (s.entryOf d).map fun e => if c = d then f e else e :=
  find_changeEntry c d f hf s.entries

theorem entryOf_cell {c : Cell} {e : Entry} (h : s.entryOf c = some e) : e.cell = c := by
  have := List.find?_some h
  simpa using this

theorem entryOf_mem {c : Cell} {e : Entry} (h : s.entryOf c = some e) : e ∈ s.entries :=
  List.mem_of_find?_eq_some h

/-- The remedy of a cell after a remedy is written into a RETIRED entry (R71). -/
theorem remedyOf_change (c d : Cell) (r : Remedy) :
    (s.setEntries (changeEntry c (fun e => e.withRemedy r) s.entries)).remedyOf d
      = if c = d ∧ (s.retiredEntry c).isSome then some r else s.remedyOf d := by
  simp only [State.remedyOf, State.retiredEntry]
  rw [entryOf_setEntries_change s c d _ (fun e => withRemedy_cell e r)]
  by_cases h : c = d
  · subst h
    rcases Option.eq_none_or_eq_some (s.entryOf c) with he | ⟨⟨x, o, b⟩, he⟩
    · simp [he]
    · cases b <;> simp [he, Entry.withRemedy, Entry.remedy, Entry.isRetired, Option.filter]
  · rcases Option.eq_none_or_eq_some (s.entryOf d) with he | ⟨x, he⟩ <;> simp [h, he]

end Machine

end Sys2Proof
end

