-- ==== Sys2Proof/Laws/Keeps.lean ====
section
/-! SUPPORT. What a property of states must survive so that the shared operations keep it: one list of elementary changes for each layer, and one lemma for each operation built from them. -/

namespace Sys2Proof.Machine

/-- A property kept by a step of a fold is kept by the fold. -/
theorem foldl_keeps {α : Type} {P : State → Prop} {f : State → α → State}
    (h : ∀ s a, P s → P (f s a)) (l : List α) (s : State) (hs : P s) : P (l.foldl f s) := by
  induction l generalizing s with
  | nil => exact hs
  | cons a l ih => exact ih (f s a) (h s a hs)

/-- A property kept by the elementary changes of remedies and sites: a notice queued, a remedy written, a site record written, an edge position marked. -/
structure RemedyKept (P : State → Prop) : Prop where
  enqueue : ∀ p n s, P s → P (enqueue p n s)
  remedy : ∀ c r s, P s → P (s.setEntries (changeEntry c (fun e => e.withRemedy r) s.entries))
  site : ∀ site r s, P s → P (s.setSite site r)
  mark : ∀ edge p b s, P s → P (s.markEdge edge p b)

namespace RemedyKept

variable {P : State → Prop} (k : RemedyKept P)
include k

theorem sendTo (d : Dir) (body : NoticeBody) (s : State) (h : P s) : P (sendTo d body s) := by
  unfold Machine.sendTo
  split
  · exact h
  · exact k.enqueue _ _ _ h

theorem sendFillList (edge : Edge) (s : State) (h : P s) : P (sendFillList edge s) := k.sendTo _ _ _ h

theorem sendFillLists (c : Cell) (s : State) (h : P s) : P (sendFillLists c s) :=
  foldl_keeps (fun s edge => k.sendFillList edge s) _ _ h

theorem markCell (c : Cell) (b : Bool) (s : State) (h : P s) : P (s.markCell c b) :=
  foldl_keeps (fun s edge => k.mark edge (c.edgePosition edge) b s) _ _ h

theorem tellFilled (announce : Bool) (c : Cell) (before after : Bool) (s : State) (h : P s) :
    P (tellFilled announce c before after s) := by
  unfold Machine.tellFilled
  split
  · exact h
  · split
    · exact k.sendFillLists _ _ (k.markCell _ _ _ h)
    · exact k.markCell _ _ _ h

theorem sendClaim (c : Cell) (owner : OwnerDir) (site : Site) (attempt : Nat) (s : State) (h : P s) :
    P (sendClaim c owner site attempt s) := k.sendTo _ _ _ h

theorem sendRelease (d : Dir) (site : Site) (c : Cell) (s : State) (h : P s) : P (sendRelease d site c s) :=
  k.sendTo _ _ _ h

theorem beginClaim (c : Cell) (r : Remedy) (s : State) (h : P s) : P (beginClaim c r s) := by
  unfold Machine.beginClaim
  split
  · exact k.sendClaim _ _ _ _ _ h
  · exact h

theorem giveRemedy (announce : Bool) (c : Cell) (r : Remedy) (s : State) (h : P s) :
    P (giveRemedy announce c r s) := by
  unfold Machine.giveRemedy
  split
  · exact h
  · exact k.tellFilled _ _ _ _ _ (k.beginClaim _ _ _ (k.remedy _ _ _ h))

theorem setSiteState (site : Site) (st : SiteState) (s : State) (h : P s) : P (s.setSiteState site st) :=
  k.site _ _ _ h

theorem freeSite (announce : Bool) (site : Site) (s : State) (h : P s) : P (freeSite announce site s) := by
  simp only [Machine.freeSite]
  split
  · exact k.setSiteState _ _ _ h
  · exact k.giveRemedy _ _ _ _ (k.setSiteState _ _ _ (k.setSiteState _ _ _ h))

theorem releaseOwnSite (c : Cell) (site : Site) (s : State) (h : P s) : P (releaseOwnSite c site s) := by
  unfold Machine.releaseOwnSite
  split
  · exact k.freeSite _ _ _ h
  · exact h

theorem chooseRemedy (announce : Bool) (c : Cell) (s : State) (h : P s) : P (chooseRemedy announce c s) := by
  unfold Machine.chooseRemedy
  split
  · exact h
  · split
    · split
      · exact k.giveRemedy _ _ _ _ (k.setSiteState _ _ _ h)
      · exact k.giveRemedy _ _ _ _ h
    · exact k.giveRemedy _ _ _ _ h

theorem rechoose (announce : Bool) (calls : Cell → Remedy → Bool) (s : State) (c : Cell) (h : P s) :
    P (rechoose announce calls s c) := by
  unfold Machine.rechoose
  split
  · exact k.chooseRemedy _ _ _ h
  · exact h

theorem rechooseAll (announce : Bool) (calls : Cell → Remedy → Bool) (s : State) (h : P s) :
    P (rechooseAll announce calls s) :=
  foldl_keeps (fun s c => k.rechoose announce calls s c) _ _ h

theorem releaseToOwner (c : Cell) (r : Option Remedy) (s : State) (h : P s) : P (releaseToOwner c r s) := by
  unfold Machine.releaseToOwner
  split
  · exact k.sendRelease _ _ _ _ h
  · exact k.sendRelease _ _ _ _ h
  · exact h

theorem releaseToSite (c : Cell) (r : Option Remedy) (s : State) (h : P s) : P (releaseToSite c r s) := by
  unfold Machine.releaseToSite
  split
  · exact k.releaseOwnSite _ _ _ h
  · exact h

/-! ## The owner side -/

theorem faultConsequence (site : Site) (old : SiteState) (s : State) (h : P s) :
    P (faultConsequence site old s) := by
  unfold Machine.faultConsequence
  split
  · exact k.giveRemedy _ _ _ _ h
  · exact k.sendTo _ _ _ h
  · exact h

theorem takeSiteVerdict (v : SiteVerdict) (s : State) (h : P s) : P (takeSiteVerdict v s) := by
  simp only [Machine.takeSiteVerdict]
  split
  · exact k.site _ _ _ h
  · split
    · exact k.site _ _ _ h
    · exact k.site _ _ _ h
    · exact k.site _ _ _ h
    · split
      · exact k.faultConsequence _ _ _ (k.site _ _ _ h)
      · exact k.site _ _ _ h

theorem refuseClaim (d : Dir) (site : Site) (c : Cell) (why : RefuseReason) (s : State) (h : P s) :
    P (refuseClaim d site c why s) := k.sendTo _ _ _ h

theorem lendSite (d : BorrowerDir) (site : Site) (c : Cell) (s : State) (h : P s) : P (lendSite d site c s) :=
  k.sendTo _ _ _ (k.setSiteState _ _ _ h)

theorem takeRelease (d : Dir) (site : Site) (c : Cell) (s : State) (h : P s) : P (takeRelease d site c s) := by
  unfold Machine.takeRelease
  split
  · exact h
  · split
    · exact k.freeSite _ _ _ h
    · exact h

theorem checkHold (b : BorrowerDir) (pairs : List LoanPair) (s : State) (site : Site) (h : P s) :
    P (checkHold b pairs s site) := by
  unfold Machine.checkHold
  split
  · split
    · exact k.freeSite _ _ _ h
    · exact h
  · exact h

theorem takeHoldList (d : Dir) (pairs : List LoanPair) (s : State) (h : P s) : P (takeHoldList d pairs s) := by
  unfold Machine.takeHoldList
  split
  · exact h
  · exact foldl_keeps (fun s site => k.checkHold _ _ s site) _ _ h

theorem freeIfLost (announce : Bool) (lost : BorrowerDir → Bool) (s : State) (site : Site) (h : P s) :
    P (freeIfLost announce lost s site) := by
  unfold Machine.freeIfLost
  split
  · exact k.freeSite _ _ _ h
  · exact h

theorem freeLost (announce : Bool) (lost : BorrowerDir → Bool) (s : State) (h : P s) :
    P (freeLost announce lost s) := foldl_keeps (fun s site => k.freeIfLost _ _ s site) _ _ h

theorem endHold (site : Site) (s : State) (h : P s) : P (endHold site s) := by
  unfold Machine.endHold
  split
  · exact k.freeSite _ _ _ h
  · exact h

/-! ## The claimant side -/

theorem setClaim (c : Cell) (owner : OwnerDir) (site : Site) (attempt timer : Nat) (s : State) (h : P s) :
    P (setClaim c owner site attempt timer s) := k.remedy _ _ _ h

theorem takeGrant (d : Dir) (site : Site) (c : Cell) (s : State) (h : P s) : P (takeGrant d site c s) := by
  unfold Machine.takeGrant
  split
  · exact k.giveRemedy _ _ _ _ h
  · exact h
  · exact k.sendRelease _ _ _ _ h

theorem takeWait (d : Dir) (site : Site) (c : Cell) (s : State) (h : P s) : P (takeWait d site c s) := by
  unfold Machine.takeWait
  split
  · exact k.setClaim _ _ _ _ _ _ h
  · exact h

theorem takeRefuse (d : Dir) (site : Site) (c : Cell) (code : Fin 16) (s : State) (h : P s) :
    P (takeRefuse d site c code s) := by
  unfold Machine.takeRefuse
  split
  · exact k.giveRemedy _ _ _ _ h
  · exact h

theorem takeRevoke (d : Dir) (site : Site) (c : Cell) (s : State) (h : P s) : P (takeRevoke d site c s) := by
  unfold Machine.takeRevoke
  split
  · exact k.giveRemedy _ _ _ _ h
  · exact h

theorem retryClaim (c : Cell) (s : State) (h : P s) : P (retryClaim c s) := by
  unfold Machine.retryClaim
  split
  · split
    · exact k.sendClaim _ _ _ _ _ (k.setClaim _ _ _ _ _ _ h)
    · exact k.giveRemedy _ _ _ _ h
  · exact h

theorem takeSweepEnd (s : State) (h : P s) : P (takeSweepEnd s) := k.rechooseAll _ _ _ h

theorem checkLoan (owner : OwnerDir) (pairs : List LoanPair) (s : State) (c : Cell) (h : P s) :
    P (checkLoan owner pairs s c) := by
  unfold Machine.checkLoan
  split
  · split
    · exact k.chooseRemedy _ _ _ (k.giveRemedy _ _ _ _ h)
    · exact h
  · exact h

theorem answerPair (owner : OwnerDir) (s : State) (pair : LoanPair) (h : P s) : P (answerPair owner s pair) := by
  unfold Machine.answerPair
  split
  · exact h
  · exact k.sendRelease _ _ _ _ h

theorem takeLoanList (d : Dir) (pairs : List LoanPair) (s : State) (h : P s) : P (takeLoanList d pairs s) := by
  unfold Machine.takeLoanList
  split
  · exact h
  · exact foldl_keeps (fun s pair => k.answerPair _ s pair) _ _
      (foldl_keeps (fun s c => k.checkLoan _ _ s c) _ _ h)

theorem dropIfLost (announce : Bool) (lost : OwnerDir → Bool) (s : State) (c : Cell) (h : P s) :
    P (dropIfLost announce lost s c) := by
  unfold Machine.dropIfLost
  split
  · exact k.giveRemedy _ _ _ _ h
  · exact h

theorem dropLost (announce : Bool) (lost : OwnerDir → Bool) (s : State) (h : P s) :
    P (dropLost announce lost s) := foldl_keeps (fun s c => k.dropIfLost _ _ s c) _ _ h

/-! ## Lists -/

theorem sendLists (d : Dir) (s : State) (h : P s) : P (sendLists d s) := by
  cases d
  · exact k.sendTo _ _ _ (k.sendFillList _ _ h)
  · exact k.sendTo _ _ _ (k.sendFillList _ _ h)
  · exact k.sendTo _ _ _ (k.sendFillList _ _ h)
  · exact k.sendTo _ _ _ (k.sendFillList _ _ h)
  · exact k.sendTo _ _ _ h
  · exact k.sendTo _ _ _ h

theorem neighbourReturned (d : Dir) (s : State) (h : P s) : P (neighbourReturned d s) :=
  k.rechooseAll _ _ _ (k.sendLists _ _ h)

theorem chooseStored (s : State) (h : P s) : P (chooseStored s) :=
  foldl_keeps (fun s c => k.chooseRemedy false c s) _ _ h

end RemedyKept

/-- A property kept also by the changes of the Seam Agent and the request for the override list. -/
structure SeamKept (P : State → Prop) : Prop extends RemedyKept P where
  raise : ∀ f s, P s → P (s.raise f)
  hear : ∀ d nb s, P s → s.neighbour d = some nb →
    P (s.setNeighbour d (some { nb with presence := .present, quiet := some 0 }))
  request : ∀ site s, P s → P (requestAppend site s)
  fills : ∀ edge positions s, P s → P (replaceFills edge positions s)
  timer : ∀ s, P s → P { s with seam := { s.seam with refreshTimer := some 0 } }

namespace SeamKept

variable {P : State → Prop} (k : SeamKept P)
include k

theorem hearNeighbour (d : Dir) (s : State) (h : P s) : P (hearNeighbour d s) := by
  simp only [Machine.hearNeighbour]
  split
  · exact h
  · rename_i nb e
    split
    · exact k.hear _ _ _ h e
    · exact k.neighbourReturned _ _ (k.hear _ _ _ h e)

theorem updatePresence (src : Pos) (s : State) (h : P s) : P (updatePresence src s) := by
  unfold Machine.updatePresence
  split
  · exact h
  · exact k.hearNeighbour _ _ h

/-- What a notice does keeps a property, when what it calls for does. -/
theorem receive (rx : Rx) (act : State → State) (ha : ∀ s, P s → P (act s)) (s : State) (h : P s) :
    P (receive rx act s) := by
  simp only [Machine.receive]
  split
  · exact h
  · split
    · exact k.raise _ _ h
    · split
      · exact ha _ (k.updatePresence _ _ h)
      · exact k.updatePresence _ _ h

theorem receiveFromNeighbour (rx : Rx) (act : Dir → State → State) (ha : ∀ d s, P s → P (act d s)) (s : State)
    (h : P s) : P (receiveFromNeighbour rx act s) := by
  apply k.receive rx _ _ s h
  intro t ht
  split
  · exact ht
  · exact ha _ _ ht

theorem holdSite (d : BorrowerDir) (site : Site) (c : Cell) (s : State) (h : P s) : P (holdSite d site c s) :=
  k.sendTo _ _ _ (k.request _ _ (k.setSiteState _ _ _ h))

theorem answerFromSite (d : BorrowerDir) (c : Cell) (site : Site) (s : State) (h : P s) :
    P (answerFromSite d c site s) := by
  simp only [Machine.answerFromSite]
  split
  · exact k.refuseClaim _ _ _ _ _ h
  · exact k.refuseClaim _ _ _ _ _ h
  · split
    · exact k.lendSite _ _ _ _ h
    · exact k.holdSite _ _ _ _ h
  · split
    · split
      · exact k.lendSite _ _ _ _ h
      · exact k.sendTo _ _ _ h
    · exact k.refuseClaim _ _ _ _ _ h
  · split
    · exact k.sendTo _ _ _ h
    · exact k.refuseClaim _ _ _ _ _ h
  · exact k.refuseClaim _ _ _ _ _ h

theorem takeClaim (d : Dir) (c : Cell) (site : Site) (s : State) (h : P s) : P (takeClaim d c site s) := by
  unfold Machine.takeClaim
  split
  · exact k.refuseClaim _ _ _ _ _ h
  · split
    · exact k.refuseClaim _ _ _ _ _ h
    · split
      · exact k.refuseClaim _ _ _ _ _ h
      · exact k.answerFromSite _ _ _ _ h

theorem takeFillList (d : Dir) (edge : Edge) (positions : List (Fin 32)) (s : State) (h : P s) :
    P (takeFillList d edge positions s) := by
  unfold Machine.takeFillList
  split
  · exact h
  · split
    · exact k.fills _ _ _ h
    · exact h

theorem refresh (s : State) (h : P s) : P (refresh s) :=
  k.timer _ (foldl_keeps (fun s d => k.sendLists d s) _ _ h)

end SeamKept

/-- A property kept also by the changes of the Remap Table, the Condition Tracker and the Store Interface, however they come. -/
structure TableKept (P : State → Prop) : Prop extends SeamKept P where
  entries : ∀ es s, P s → P (s.setEntries es)
  cell : ∀ c r s, P s → P (s.setCell c r)
  queue : ∀ op s, P s → P (queueWrite op s)
  cancel : ∀ c s, P s →
    P { s with store := { s.store with pendingWrites := removeLastAppend c s.store.pendingWrites } }

namespace TableKept

variable {P : State → Prop} (k : TableKept P)
include k

theorem changeCell (c : Cell) (f : CellRecord → CellRecord) (s : State) (h : P s) : P (s.changeCell c f) :=
  k.cell _ _ _ h

theorem storeAppend (c : Cell) (o : Origin) (s : State) (h : P s) : P (storeAppend c o s) := by
  unfold Machine.storeAppend
  split
  · exact h
  · exact k.queue _ _ h

theorem storeRemoval (c : Cell) (s : State) (h : P s) : P (storeRemoval c s) := by
  unfold Machine.storeRemoval
  split
  · exact h
  · split
    · exact k.cancel _ _ h
    · split
      · exact k.queue _ _ h
      · exact h

theorem enterDim (c : Cell) (gains : Rgb Nat) (s : State) (h : P s) : P (enterDim c gains s).2 := by
  unfold Machine.enterDim
  split
  · exact k.entries _ _ h
  · exact h

theorem appendRetired (c : Cell) (o : Origin) (at_ : Nat) (s : State) (h : P s) : P (appendRetired c o at_ s) :=
  k.storeAppend _ _ _ (k.chooseRemedy _ _ _ (k.entries _ _ h))

theorem enterRetired (c : Cell) (o : Origin) (at_ : Nat) (s : State) (h : P s) : P (enterRetired c o at_ s).2 := by
  unfold Machine.enterRetired
  split
  · exact k.appendRetired _ _ _ _ h
  · split
    · exact k.appendRetired _ _ _ _ (k.entries _ _ h)
    · exact h

theorem convertEntry (c : Cell) (o : Origin) (at_ : Nat) (s : State) (h : P s) : P (convertEntry c o at_ s) := by
  unfold Machine.convertEntry
  split
  · split
    · exact h
    · exact k.storeAppend _ _ _ (k.chooseRemedy _ _ _ (k.entries _ _ h))
  · exact h

theorem replaceGains (c : Cell) (gains : Rgb Nat) (s : State) (h : P s) : P (replaceGains c gains s) :=
  k.entries _ _ h

theorem removeEntry (c : Cell) (s : State) (h : P s) : P (removeEntry c s) := by
  simp only [Machine.removeEntry]
  split
  · exact h
  · split
    · exact k.storeRemoval _ _ (k.releaseToSite _ _ _ (k.tellFilled _ _ _ _ _ (k.entries _ _
        (k.releaseToOwner _ _ _ h))))
    · exact k.entries _ _ h

theorem applyRetired (c : Cell) (a : Admission) (s : State) (h : P s) : P (applyRetired c a s) := by
  unfold Machine.applyRetired
  split
  · exact k.changeCell _ _ _ h
  · exact k.changeCell _ _ _ (k.changeCell _ _ _ h)
  · exact h

theorem retireDetected (c : Cell) (sweep : Nat) (s : State) (h : P s) : P (retireDetected c sweep s) := by
  have e := k.enterRetired c .detected sweep s h
  unfold Machine.retireDetected
  split
  · rename_i t q
    rw [q] at e
    exact k.raise _ _ (k.changeCell _ _ _ e)
  · rename_i a t _ q
    rw [q] at e
    exact k.applyRetired _ _ _ e

theorem dimDetected (c : Cell) (gains : Rgb Nat) (s : State) (h : P s) : P (dimDetected c gains s) := by
  have e := k.enterDim c gains s h
  unfold Machine.dimDetected
  split
  · rename_i t q
    rw [q] at e
    exact k.raise _ _ (k.changeCell _ _ _ e)
  · rename_i a t _ q
    rw [q] at e
    exact k.changeCell _ _ _ e

theorem judgeGood (v : CellVerdict) (j : Judgement) (s : State) (h : P s) : P (judgeGood v j s) := by
  simp only [Machine.judgeGood]
  split
  · split
    · exact k.retireDetected _ _ _ (k.cell _ _ _ h)
    · exact k.cell _ _ _ h
  · split
    · exact k.dimDetected _ _ _ (k.cell _ _ _ h)
    · exact k.cell _ _ _ h
  · exact k.cell _ _ _ h
  · exact h

theorem judgeSuspect (v : CellVerdict) (j : Judgement) (s : State) (h : P s) : P (judgeSuspect v j s) := by
  simp only [Machine.judgeSuspect]
  split
  · split
    · exact k.retireDetected _ _ _ (k.cell _ _ _ h)
    · exact k.cell _ _ _ h
  · split
    · exact k.dimDetected _ _ _ (k.cell _ _ _ h)
    · exact k.cell _ _ _ h
  · exact k.cell _ _ _ h
  · exact h

theorem judgeDim (v : CellVerdict) (j : Judgement) (s : State) (h : P s) : P (judgeDim v j s) := by
  simp only [Machine.judgeDim]
  split
  · split
    · exact k.changeCell _ _ _ (k.convertEntry _ _ _ _ h)
    · exact k.cell _ _ _ h
  · exact k.changeCell _ _ _ (k.replaceGains _ _ _ h)
  · split
    · exact k.changeCell _ _ _ (k.removeEntry _ _ h)
    · exact k.cell _ _ _ h
  · exact h

theorem takeCellVerdict (v : CellVerdict) (s : State) (h : P s) : P (takeCellVerdict v s) := by
  simp only [Machine.takeCellVerdict]
  split
  · exact k.judgeGood _ _ _ (k.changeCell _ _ _ h)
  · exact k.judgeSuspect _ _ _ (k.changeCell _ _ _ h)
  · exact k.judgeDim _ _ _ (k.changeCell _ _ _ h)
  · exact k.changeCell _ _ _ h

theorem markCellRetired (c : Cell) (s : State) (h : P s) : P (markCellRetired c s).2 := by
  have e := k.enterRetired c .marked s.probe.sweepCount s h
  unfold Machine.markCellRetired
  split
  · exact h
  · dsimp only
    exact k.changeCell c _ _ (k.convertEntry c _ _ _ h)
  · split
    · exact h
    · rename_i a t _ q
      rw [q] at e
      exact k.applyRetired c a t e

theorem restoreCell (c : Cell) (s : State) (h : P s) : P (restoreCell c s).2 := by
  unfold Machine.restoreCell
  split
  · exact h
  · exact h
  · dsimp only
    exact k.changeCell c _ _ (k.removeEntry c _ h)

end TableKept

end Sys2Proof.Machine
end

