-- ==== Sys2Proof/Laws/Frames.lean ====
section
/-! SUPPORT. What the operations on remedies leave unchanged, that they neither read nor write the verdict records, and what a notice comes to when it passes the filter. -/

namespace Sys2Proof.Machine

/-! ## The frame of the operations on remedies -/

/-- The second state differs from the first in the remap table, the site table, the ports, the flags and the filled edge sets alone. -/
def OnlyRemedies (s t : State) : Prop :=
  t = { s with
    entries := t.entries, sites := t.sites, ports := t.ports, flags := t.flags
    seam := { s.seam with filledEdges := t.seam.filledEdges } }

theorem OnlyRemedies.refl (s : State) : OnlyRemedies s s := rfl

theorem OnlyRemedies.trans {s t u : State} (h : OnlyRemedies s t) (h' : OnlyRemedies t u) : OnlyRemedies s u := by
  unfold OnlyRemedies at *
  rw [h] at h'
  exact h'

theorem enqueue_onlyRemedies (p : PortId) (n : Notice) (s : State) : OnlyRemedies s (enqueue p n s) := by
  unfold enqueue
  split
  · unfold enqueueAnswer
    dsimp only
    split <;> rfl
  · unfold enqueueNotice
    dsimp only
    split
    · rfl
    · split <;> rfl

/-- Every operation on remedies changes nothing else. -/
theorem onlyRemedies_kept (s : State) : RemedyKept (OnlyRemedies s) where
  enqueue p n t h := h.trans (enqueue_onlyRemedies p n t)
  remedy _ _ t h := h.trans (show OnlyRemedies t _ from rfl)
  site _ _ t h := h.trans (show OnlyRemedies t _ from rfl)
  mark _ _ _ t h := h.trans (show OnlyRemedies t _ from rfl)

namespace OnlyRemedies

variable {s t : State} (h : OnlyRemedies s t)
include h

theorem position : t.position = s.position := by rw [h]
theorem cfg : t.cfg = s.cfg := by rw [h]
theorem mode : t.mode = s.mode := by rw [h]
theorem cells : t.cells = s.cells := by rw [h]
theorem cell (c : Cell) : t.cell c = s.cell c := by rw [h]; rfl
theorem store : t.store = s.store := by rw [h]
theorem probe : t.probe = s.probe := by rw [h]
theorem handed : t.handed = s.handed := by rw [h]
theorem pending : t.pending = s.pending := by rw [h]
theorem lastTags : t.lastTags = s.lastTags := by rw [h]
theorem neighbour (d : Dir) : t.neighbour d = s.neighbour d := by rw [h]; rfl
theorem foreignFills : t.seam.foreignFills = s.seam.foreignFills := by rw [h]
theorem refreshTimer : t.seam.refreshTimer = s.seam.refreshTimer := by rw [h]

end OnlyRemedies

/-- The second state differs from the first in the ports and the flags alone. -/
def OnlySends (s t : State) : Prop := t = { s with ports := t.ports, flags := t.flags }

theorem OnlySends.trans {s t u : State} (h : OnlySends s t) (h' : OnlySends t u) : OnlySends s u := by
  unfold OnlySends at *
  rw [h] at h'
  exact h'

theorem enqueue_onlySends (p : PortId) (n : Notice) (s : State) : OnlySends s (enqueue p n s) := by
  unfold enqueue
  split
  · unfold enqueueAnswer
    dsimp only
    split <;> rfl
  · unfold enqueueNotice
    dsimp only
    split
    · rfl
    · split <;> rfl

theorem sendTo_onlySends (d : Dir) (body : NoticeBody) (s : State) : OnlySends s (sendTo d body s) := by
  unfold sendTo
  split
  · rfl
  · exact enqueue_onlySends _ _ _

namespace OnlySends

variable {s t : State} (h : OnlySends s t)
include h

theorem entries : t.entries = s.entries := by rw [h]
theorem remedyOf (c : Cell) : t.remedyOf c = s.remedyOf c := by rw [h]; rfl
theorem site (a : Site) : t.site a = s.site a := by rw [h]; rfl
theorem seam : t.seam = s.seam := by rw [h]
theorem loansTo (b : BorrowerDir) : t.loansTo b = s.loansTo b := by rw [h]; rfl
theorem loansFrom (o : OwnerDir) : t.loansFrom o = s.loansFrom o := by rw [h]; rfl
theorem filledPositions (edge : Edge) : t.filledPositions edge = s.filledPositions edge := by rw [h]; rfl

end OnlySends

/-! ## The answer queues -/

/-- A notice that is not an answer leaves every answer queue as it is. -/
theorem enqueue_answers {n : Notice} (hn : isAnswer n.body = false) (p q : PortId) (s : State) :
    ((enqueue p n s).port q).answers = (s.port q).answers := by
  unfold enqueue
  rw [if_neg (by simp [hn])]
  unfold enqueueNotice
  dsimp only
  split
  · rw [port_setPort]
    split
    · rename_i e
      rw [e]
    · rfl
  · split
    · rw [port_setPort]
      split
      · rename_i e
        rw [e]
      · rfl
    · rfl

/-- An answer that finds room is appended. -/
theorem enqueue_answer {n : Notice} (hn : isAnswer n.body = true) (p : PortId) (s : State)
    (room : (s.port p).answers.length < 4) :
    enqueue p n s = s.setPort p { s.port p with answers := (s.port p).answers ++ [n] } := by
  unfold enqueue enqueueAnswer
  rw [if_pos hn]
  exact if_pos room

/-! ## The verdict records -/

/-- The state with other verdict records. -/
def State.withCells (s : State) (x : Tbl 1024 CellRecord) : State := { s with cells := x }

section Cells

variable (x : Tbl 1024 CellRecord)

theorem enqueue_withCells (p : PortId) (n : Notice) (s : State) :
    enqueue p n (s.withCells x) = (enqueue p n s).withCells x := by
  unfold enqueue
  split
  · unfold enqueueAnswer
    simp only [show (s.withCells x).port p = s.port p from rfl]
    split <;> rfl
  · unfold enqueueNotice
    simp only [show (s.withCells x).port p = s.port p from rfl]
    split
    · rfl
    · split <;> rfl

theorem sendTo_withCells (d : Dir) (body : NoticeBody) (s : State) :
    sendTo d body (s.withCells x) = (sendTo d body s).withCells x := by
  unfold sendTo
  rw [show (s.withCells x).neighbour d = s.neighbour d from rfl]
  split
  · rfl
  · exact enqueue_withCells x _ _ s

theorem foldl_withCells {α : Type} {f : State → α → State}
    (h : ∀ s a, f (s.withCells x) a = (f s a).withCells x) (l : List α) (s : State) :
    l.foldl f (s.withCells x) = (l.foldl f s).withCells x := by
  induction l generalizing s with
  | nil => rfl
  | cons a l ih => rw [List.foldl_cons, h, ih, List.foldl_cons]

theorem tellFilled_withCells (announce : Bool) (c : Cell) (before after : Bool) (s : State) :
    tellFilled announce c before after (s.withCells x) = (tellFilled announce c before after s).withCells x := by
  have mark : ∀ b (t : State), (t.withCells x).markCell c b = (t.markCell c b).withCells x :=
    fun b t => foldl_withCells x (fun _ _ => rfl) _ t
  have send : ∀ t : State, sendFillLists c (t.withCells x) = (sendFillLists c t).withCells x :=
    fun t => foldl_withCells x (fun u edge => sendTo_withCells x _ _ u) _ t
  unfold tellFilled
  split
  · rfl
  · split
    · rw [mark, send]
    · exact mark _ _

theorem giveRemedy_withCells (announce : Bool) (c : Cell) (r : Remedy) (s : State) :
    giveRemedy announce c r (s.withCells x) = (giveRemedy announce c r s).withCells x := by
  have claim : ∀ t : State, beginClaim c r (t.withCells x) = (beginClaim c r t).withCells x := by
    intro t
    unfold beginClaim
    split
    · exact sendTo_withCells x _ _ t
    · rfl
  unfold giveRemedy
  rw [show (s.withCells x).retiredEntry c = s.retiredEntry c from rfl]
  split
  · rfl
  · rw [← tellFilled_withCells, ← claim]
    rfl

theorem chooseRemedy_withCells (announce : Bool) (c : Cell) (s : State) :
    chooseRemedy announce c (s.withCells x) = (chooseRemedy announce c s).withCells x := by
  unfold chooseRemedy
  rw [show (s.withCells x).retiredEntry c = s.retiredEntry c from rfl]
  split
  · rfl
  · split
    · rename_i site _
      simp only [show (s.withCells x).site site = s.site site from rfl]
      split
      · rw [← giveRemedy_withCells]
        rfl
      · exact giveRemedy_withCells x _ _ _ s
    · exact giveRemedy_withCells x _ _ _ s

theorem freeSite_withCells (announce : Bool) (site : Site) (s : State) :
    freeSite announce site (s.withCells x) = (freeSite announce site s).withCells x := by
  have free : ∀ t : State, (t.withCells x).setSiteState site .free = (t.setSiteState site .free).withCells x :=
    fun _ => rfl
  unfold freeSite
  simp only [free, show ∀ (t : State) c, (t.withCells x).remedyOf c = t.remedyOf c from fun _ _ => rfl]
  split
  · rfl
  · rw [← giveRemedy_withCells]
    rfl

theorem storeAppend_withCells (c : Cell) (o : Origin) (s : State) :
    storeAppend c o (s.withCells x) = (storeAppend c o s).withCells x := by
  unfold storeAppend queueWrite
  rw [show (s.withCells x).storeMissing = s.storeMissing from rfl]
  split
  · rfl
  · simp only [show (s.withCells x).store = s.store from rfl]
    split <;> rfl

/-- A change of one verdict record passes through the choice of a remedy and the queueing of its append. -/
theorem retire_setCell (c : Cell) (o : Origin) (d : Cell) (r : CellRecord) (s : State) :
    storeAppend c o (chooseRemedy true c (s.setCell d r)) = (storeAppend c o (chooseRemedy true c s)).setCell d r := by
  have choose : (chooseRemedy true c s).cells = s.cells :=
    ((onlyRemedies_kept s).chooseRemedy true c s (OnlyRemedies.refl s)).cells
  have append : ∀ t : State, (storeAppend c o t).cells = t.cells := by
    intro t
    unfold storeAppend queueWrite
    split
    · rfl
    · split <;> rfl
  have e : s.setCell d r = s.withCells (s.cells.set d.index r) := rfl
  rw [e, chooseRemedy_withCells, storeAppend_withCells]
  show _ = { storeAppend c o (chooseRemedy true c s) with
    cells := (storeAppend c o (chooseRemedy true c s)).cells.set d.index r }
  rw [append, choose]
  rfl

end Cells

/-! ## A notice that passes the filter -/

/-- What a presence update leaves unchanged: all but one neighbour's presence, the remap table, the site table, the ports, the flags and the filled edge sets. -/
theorem updatePresence_frame (src : Pos) (s : State) :
    ∃ neighbours, OnlyRemedies { s with seam := { s.seam with neighbours := neighbours } } (updatePresence src s) ∧
      ∀ d, (neighbours.get d).map Neighbour.position = (s.neighbour d).map Neighbour.position := by
  unfold updatePresence
  split
  · exact ⟨s.seam.neighbours, rfl, fun _ => rfl⟩
  · rename_i d _
    unfold hearNeighbour
    split
    · exact ⟨s.seam.neighbours, rfl, fun _ => rfl⟩
    · rename_i nb e
      refine ⟨s.seam.neighbours.set d (some { nb with presence := .present, quiet := some 0 }), ?_, ?_⟩
      · have k := onlyRemedies_kept (s.setNeighbour d (some { nb with presence := .present, quiet := some 0 }))
        dsimp only
        split
        · exact OnlyRemedies.refl _
        · exact k.neighbourReturned _ _ (OnlyRemedies.refl _)
      · intro d'
        rw [PerDir.get_set]
        split
        · rename_i e'
          subst e'
          rw [e]
          rfl
        · rfl

theorem updatePresence_position (src : Pos) (s : State) : (updatePresence src s).position = s.position := by
  obtain ⟨nbs, h, _⟩ := updatePresence_frame src s
  exact h.position

theorem updatePresence_cfg (src : Pos) (s : State) : (updatePresence src s).cfg = s.cfg := by
  obtain ⟨nbs, h, _⟩ := updatePresence_frame src s
  exact h.cfg

theorem updatePresence_addressed (src dst : Pos) (s : State) : (updatePresence src s).addressed dst = s.addressed dst := by
  unfold State.addressed
  rw [updatePresence_position]

/-- A presence update moves no neighbour. -/
theorem updatePresence_directionOf (src q : Pos) (s : State) : (updatePresence src s).directionOf q = s.directionOf q := by
  obtain ⟨nbs, h, same⟩ := updatePresence_frame src s
  unfold State.directionOf
  congr 1
  funext d
  rw [h.neighbour]
  have := same d
  have e : State.neighbour { s with seam := { s.seam with neighbours := nbs } } d = nbs.get d := rfl
  rw [e]
  revert this
  cases nbs.get d <;> cases s.neighbour d <;> simp
  intro e
  rw [e]

/-- A notice that comes to be acted on as one of a neighbour in a direction is acted on so after the presence update. -/
theorem receiveFromNeighbour_takes {s : State} {rx : Rx} {d : Dir} (h : Takes s rx d) (act : Dir → State → State) :
    receiveFromNeighbour rx act s = act d (updatePresence rx.src s) := by
  unfold receiveFromNeighbour receive
  rw [if_neg h.reads, if_neg (by simp [h.other])]
  dsimp only
  rw [updatePresence_addressed, if_pos h.addressed, updatePresence_directionOf, h.direction]

/-- A notice of a service station, addressed to the tile, is acted on after the presence update. -/
theorem receive_fromStation {s : State} {rx : Rx} (h : FromStation s rx) (act : State → State) :
    receive rx act s = act (updatePresence rx.src s) := by
  unfold receive
  rw [if_neg h.reads, if_neg (by simp [State.clashes, h.station])]
  dsimp only
  rw [updatePresence_addressed, if_pos (by simp [State.addressed, h.addressed])]

end Sys2Proof.Machine
end

