-- ==== Sys2Proof/Laws/Remedies.lean ====
section
/-! SUPPORT. What writing a remedy and freeing a site come to, case by case, in the words of the statements. -/

namespace Sys2Proof.Machine

variable {s : State} {c : Cell}

/-! ## A cell's entry and its remedy -/

/-- A cell with a remedy has a RETIRED entry that holds it. -/
theorem retiredEntry_of_remedyOf {r : Remedy} (h : s.remedyOf c = some r) :
    ∃ e, s.retiredEntry c = some e ∧ e.remedy = some r := by
  obtain ⟨⟨d, o, b⟩, he, hr⟩ := Option.bind_eq_some_iff.mp h
  cases b with
  | dim gains => cases hr
  | retired remedy at_ persisted => exact ⟨_, by simp [State.retiredEntry, he, Option.filter, Entry.isRetired], hr⟩

/-- A cell's RETIRED entry decides its remedy. -/
theorem remedyOf_of_retiredEntry {e : Entry} (h : s.retiredEntry c = some e) : s.remedyOf c = e.remedy := by
  obtain ⟨he, _⟩ := Option.filter_eq_some_iff.mp h
  simp [State.remedyOf, he]

/-- A cell with no RETIRED entry has no remedy. -/
theorem remedyOf_none (h : s.retiredEntry c = none) : s.remedyOf c = none := by
  cases hr : s.remedyOf c with
  | none => rfl
  | some r =>
    obtain ⟨e, he, _⟩ := retiredEntry_of_remedyOf hr
    rw [h] at he
    cases he

/-! ## Writing a remedy (R71, R76) -/

/-- A remedy written into a RETIRED entry, its CLAIM and the FILL_LISTs by whether the cell is filled before and after. -/
theorem giveRemedy_retired {e : Entry} (h : s.retiredEntry c = some e) (r : Remedy) :
    giveRemedy true c r s =
      tellFilled true c e.isFilled r.isFilled (beginClaim c r (s.writeRemedy c r)) := by
  unfold giveRemedy
  rw [h]
  rfl

/-- Telling a change of the filled edge cells, in the words of the statements (R76, R146). -/
theorem tellFilled_told (announce : Bool) (before after : Bool) :
    tellFilled announce c before after s = s.told announce c before after := by
  unfold State.told tellFilled
  cases announce <;> cases before <;> cases after <;> rfl

/-- All that giving a remedy to a RETIRED entry does: the write, the CLAIM that ASKING begins, the change told (R71, R76). -/
theorem giveRemedy_told {e : Entry} (h : s.retiredEntry c = some e) (announce : Bool) (r : Remedy) :
    giveRemedy announce c r s = (beginClaim c r (s.writeRemedy c r)).told announce c e.isFilled r.isFilled := by
  rw [← tellFilled_told]
  unfold giveRemedy
  rw [h]
  rfl

/-- A change that leaves the cell filled, or unfilled, writes the remedy alone when it begins no claim. -/
theorem giveRemedy_same {e : Entry} (h : s.retiredEntry c = some e) {r : Remedy} (hr : e.isFilled = r.isFilled)
    (hc : ∀ t, beginClaim c r t = t) : giveRemedy true c r s = s.writeRemedy c r := by
  rw [giveRemedy_retired h, hc]
  simp [tellFilled, hr]

/-- A filled cell that is given a spare leaves the filled cells. -/
theorem giveRemedy_unfilled {e : Entry} (h : s.retiredEntry c = some e) {r : Remedy} (he : e.isFilled = true)
    (hr : r.isFilled = false) (hc : ∀ t, beginClaim c r t = t) :
    giveRemedy true c r s = (s.writeRemedy c r).unfilled c := by
  rw [giveRemedy_retired h, hc]
  simp [tellFilled, he, hr, State.unfilled]

/-- A cell that is not filled and is given a filled remedy joins the filled cells. -/
theorem giveRemedy_nowFilled {e : Entry} (h : s.retiredEntry c = some e) {r : Remedy} (he : e.isFilled = false)
    (hr : r.isFilled = true) :
    giveRemedy true c r s = (beginClaim c r (s.writeRemedy c r)).nowFilled c := by
  rw [giveRemedy_retired h]
  simp [tellFilled, he, hr, State.nowFilled]

@[simp] theorem beginClaim_fill (reason : FillReason) (t : State) : beginClaim c (.fill reason) t = t := rfl
@[simp] theorem beginClaim_ownSpare (site : Site) (t : State) : beginClaim c (.ownSpare site) t = t := rfl
@[simp] theorem beginClaim_loan (o : OwnerDir) (site : Site) (t : State) : beginClaim c (.loan o site) t = t := rfl

/-- The remedy of any cell after one is given (R71). -/
theorem remedyOf_giveRemedy (announce : Bool) (r : Remedy) (d : Cell) :
    (giveRemedy announce c r s).remedyOf d = if c = d ∧ (s.retiredEntry c).isSome then some r else s.remedyOf d := by
  unfold giveRemedy
  cases h : s.retiredEntry c with
  | none => simp
  | some e =>
    have entries : ∀ t : State, (tellFilled announce c e.isFilled r.isFilled (beginClaim c r t)).entries = t.entries := by
      intro t
      have claim : (beginClaim c r t).entries = t.entries := by
        unfold beginClaim
        split
        · exact (sendTo_onlySends _ _ _).entries
        · rfl
      have mark : ∀ b (u : State), (u.markCell c b).entries = u.entries := by
        intro b u
        exact foldl_keeps (P := fun v => v.entries = u.entries)
          (f := fun v edge => v.markEdge edge (c.edgePosition edge) b) (fun v edge hv => hv) _ _ rfl
      have send : ∀ u : State, (sendFillLists c u).entries = u.entries := by
        intro u
        exact foldl_keeps (P := fun v => v.entries = u.entries)
          (fun v edge hv => (sendTo_onlySends _ _ _).entries.trans hv) _ _ rfl
      unfold tellFilled
      split
      · exact claim
      · split
        · rw [send, mark, claim]
        · rw [mark, claim]
    have := remedyOf_change s c d r
    rw [h] at this
    simp only [State.remedyOf, State.entryOf, entries] at this ⊢
    exact this

/-- Giving a remedy changes no site record. -/
theorem site_giveRemedy (announce : Bool) (r : Remedy) (a : Site) : (giveRemedy announce c r s).site a = s.site a := by
  have sends : ∀ d b (u : State), (sendTo d b u).sites = u.sites := fun d b u => by rw [sendTo_onlySends d b u]
  unfold giveRemedy
  split
  · rfl
  · rename_i e _
    have claim : ∀ t, (beginClaim c r t).sites = t.sites := by
      intro t
      unfold beginClaim
      split
      · exact sends _ _ _
      · rfl
    have mark : ∀ b (u : State), (u.markCell c b).sites = u.sites := fun b u =>
      foldl_keeps (P := fun v => v.sites = u.sites)
        (f := fun v edge => v.markEdge edge (c.edgePosition edge) b) (fun v edge hv => hv) _ _ rfl
    have send : ∀ u : State, (sendFillLists c u).sites = u.sites := fun u =>
      foldl_keeps (P := fun v => v.sites = u.sites) (fun v edge hv => (sends _ _ _).trans hv) _ _ rfl
    have all : ∀ t, (tellFilled announce c e.isFilled r.isFilled t).sites = t.sites := by
      intro t
      unfold tellFilled
      split
      · rfl
      · split
        · rw [send, mark]
        · rw [mark]
    unfold State.site
    rw [all, claim]
    rfl

/-! ## Freeing a site (R87) -/

/-- A site freed in RUN is freed and offered. -/
theorem freeSite_offered (site : Site) : freeSite true site s = s.offered site := by
  have same : ∀ c, (s.setSiteState site .free).remedyOf c = s.remedyOf c := fun _ => rfl
  unfold freeSite State.offered State.waiter
  simp only [same]
  cases hf : site.quadCells.find? fun c => decide (s.remedyOf c = some (.fill .quadBusy)) with
  | none => rfl
  | some c =>
    have hq : s.remedyOf c = some (.fill .quadBusy) := by simpa using List.find?_some hf
    obtain ⟨e, he, hr⟩ := retiredEntry_of_remedyOf hq
    have twice : (s.setSiteState site .free).setSiteState site (.own c) = s.setSiteState site (.own c) := by
      simp [State.setSiteState, State.setSite, State.site]
    dsimp only
    rw [twice]
    exact giveRemedy_unfilled (s := s.setSiteState site (.own c)) (e := e) he (by simp [Entry.isFilled, hr, Remedy.isFilled])
      rfl (fun _ => rfl)

/-- The site itself after it is freed: FREE, or OWN for the cell that waited. -/
theorem site_freeSite (announce : Bool) (site a : Site) :
    (freeSite announce site s).site a =
      if site = a then { s.site site with state := match s.waiter site with | none => .free | some c => .own c }
      else s.site a := by
  have unfolded : freeSite announce site s =
      match s.waiter site with
      | none => s.setSiteState site .free
      | some c => giveRemedy announce c (.ownSpare site) ((s.setSiteState site .free).setSiteState site (.own c)) := rfl
  rw [unfolded]
  cases s.waiter site with
  | none => exact site_setSiteState s site a .free
  | some c =>
    dsimp only
    rw [site_giveRemedy, site_setSiteState, site_setSiteState_same]
    by_cases e : site = a
    · rw [if_pos e, if_pos e]
    · rw [if_neg e, if_neg e, site_setSiteState, if_neg e]

/-- The remedies after a site is freed: the cell that waited, if any, has the site. -/
theorem remedyOf_freeSite (announce : Bool) (site : Site) (d : Cell) :
    (freeSite announce site s).remedyOf d = if s.waiter site = some d then some (.ownSpare site) else s.remedyOf d := by
  have unfolded : freeSite announce site s =
      match s.waiter site with
      | none => s.setSiteState site .free
      | some c => giveRemedy announce c (.ownSpare site) ((s.setSiteState site .free).setSiteState site (.own c)) := rfl
  rw [unfolded]
  cases h : s.waiter site with
  | none => simp [State.remedyOf, State.entryOf]
  | some c =>
    have hq : s.remedyOf c = some (.fill .quadBusy) := by simpa using List.find?_some h
    obtain ⟨e, he, _⟩ := retiredEntry_of_remedyOf hq
    dsimp only
    rw [remedyOf_giveRemedy]
    have : ((s.setSiteState site .free).setSiteState site (.own c)).retiredEntry c = some e := he
    rw [this]
    simp [State.remedyOf, State.entryOf, Option.some.injEq]

end Sys2Proof.Machine
end

