-- ==== Sys2Proof/Laws/Exchanges.lean ====
section
/-! SUPPORT. What an answer from an owner matches, what a cell verdict is taken as, and what a service request comes to: the facts each of these meanings turns on. -/

namespace Sys2Proof.Machine

/-! ## Directions -/

theorem toDir_owner (o : OwnerDir) : o.toDir.owner = some o := by cases o <;> rfl

theorem toDir_borrower (b : BorrowerDir) : b.toDir.borrower = some b := by cases b <;> rfl

theorem toDir_edge (edge : Edge) : edge.toDir.edge = some edge := by cases edge <;> rfl

theorem toDir_of_borrower {d : Dir} {b : BorrowerDir} (h : d.borrower = some b) : b.toDir = d := by
  cases d <;> cases b <;> simp_all [Dir.borrower, BorrowerDir.toDir]

theorem toDir_of_edge {d : Dir} {edge : Edge} (h : d.edge = some edge) : edge.toDir = d := by
  cases d <;> cases edge <;> simp_all [Dir.edge, Edge.toDir]

/-! ## The entry that an answer matches (R118) -/

section Matched

variable {s : State} {d : Dir} {site : Site} {c : Cell} {owner : OwnerDir}

theorem matchedRemedy_asking {n timer : Nat} (hd : owner.toDir = d)
    (h : s.remedyOf c = some (.asking owner site n timer)) :
    s.matchedRemedy d site c = some (.asking owner site n timer) := by
  simp [State.matchedRemedy, h, hd]

theorem matchedRemedy_loan (hd : owner.toDir = d) (h : s.remedyOf c = some (.loan owner site)) :
    s.matchedRemedy d site c = some (.loan owner site) := by
  simp [State.matchedRemedy, h, hd]

theorem matchedRemedy_none (h : ¬ Matches s d site c) : s.matchedRemedy d site c = none := by
  unfold State.matchedRemedy
  split
  · rename_i o site' n timer e
    rw [if_neg]
    rintro ⟨ho, rfl⟩
    exact h ⟨o, ho, Or.inr ⟨n, timer, e⟩⟩
  · rename_i o site' e
    rw [if_neg]
    rintro ⟨ho, rfl⟩
    exact h ⟨o, ho, Or.inl e⟩
  · rfl

/-- A cell that is ASKING is filled (R64). -/
theorem filled_of_asking {n timer : Nat} (h : s.remedyOf c = some (.asking owner site n timer)) :
    ∃ e, s.retiredEntry c = some e ∧ e.isFilled = true := by
  obtain ⟨e, he, hr⟩ := retiredEntry_of_remedyOf h
  exact ⟨e, he, by simp [Entry.isFilled, hr, Remedy.isFilled]⟩

/-- A cell with a LOAN is not filled (R64). -/
theorem unfilled_of_loan (h : s.remedyOf c = some (.loan owner site)) :
    ∃ e, s.retiredEntry c = some e ∧ e.isFilled = false := by
  obtain ⟨e, he, hr⟩ := retiredEntry_of_remedyOf h
  exact ⟨e, he, by simp [Entry.isFilled, hr, Remedy.isFilled]⟩

end Matched

/-! ## What a cell verdict is taken as (R47) -/

theorem compensated_fault {v : CellVerdict} {g : Nat} (h : v.takenAsFault g) : v.judgement.compensated g = .fault := by
  rcases h with h | ⟨gains, h, above⟩
  · simp [h, Judgement.compensated]
  · simp only [h, Judgement.compensated]
    rw [if_neg]
    omega

theorem compensated_weak {v : CellVerdict} {g : Nat} {gains : Rgb Nat} (h : v.takenAsWeak g gains) :
    v.judgement.compensated g = .weak gains := by
  obtain ⟨h, within⟩ := h
  simp only [h, Judgement.compensated]
  rw [if_pos within]

/-! ## Absent sites (R15, R32) -/

theorem siteIsAbsent_iff (v : Rgb Nat) : siteIsAbsent v = true ↔ ∃ k, v.get k = 0 := by
  simp only [siteIsAbsent, decide_eq_true_eq]
  constructor
  · rintro (h | h | h)
    exacts [⟨.r, h⟩, ⟨.g, h⟩, ⟨.b, h⟩]
  · rintro ⟨k, h⟩
    cases k
    exacts [Or.inl h, Or.inr (Or.inl h), Or.inr (Or.inr h)]

/-! ## The cells and sites that bytes name (R183) -/

theorem ofBytes_cell (c : Cell) {x y : Byte} (hx : x.toNat = c.x.val) (hy : y.toNat = c.y.val) :
    Cell.ofBytes x y = some c := by
  have := c.x.isLt
  have := c.y.isLt
  unfold Cell.ofBytes
  rw [dif_pos (by omega), dif_pos (by omega)]
  congr

theorem ofBytes_no_cell {x y : Byte} (h : 32 ≤ x.toNat ∨ 32 ≤ y.toNat) : Cell.ofBytes x y = none := by
  unfold Cell.ofBytes
  split <;> [split <;> [omega; rfl]; rfl]

theorem ofBytes_site (site : Site) {i j : Byte} (hi : i.toNat = site.i.val) (hj : j.toNat = site.j.val) :
    Site.ofBytes i j = some site := by
  have := site.i.isLt
  have := site.j.isLt
  unfold Site.ofBytes
  rw [dif_pos (by omega), dif_pos (by omega)]
  congr

theorem ofBytes_no_site {i j : Byte} (h : 16 ≤ i.toNat ∨ 16 ≤ j.toNat) : Site.ofBytes i j = none := by
  unfold Site.ofBytes
  split <;> [split <;> [omega; rfl]; rfl]

/-! ## The answer queues through the operations on remedies -/

section Answers

variable (p : PortId)

theorem sendTo_answers (d : Dir) {body : NoticeBody} (hb : isAnswer body = false) (s : State) :
    ((sendTo d body s).port p).answers = (s.port p).answers := by
  unfold sendTo
  split
  · rfl
  · exact enqueue_answers hb _ _ _

theorem tellFilled_answers (announce : Bool) (c : Cell) (before after : Bool) (s : State) :
    ((tellFilled announce c before after s).port p).answers = (s.port p).answers := by
  have mark : ∀ b (t : State), ((t.markCell c b).port p).answers = (t.port p).answers := fun b t =>
    foldl_keeps (P := fun u => (u.port p).answers = (t.port p).answers)
      (f := fun u edge => u.markEdge edge (c.edgePosition edge) b) (fun _ _ h => h) _ _ rfl
  have send : ∀ t : State, ((sendFillLists c t).port p).answers = (t.port p).answers := fun t =>
    foldl_keeps (P := fun u => (u.port p).answers = (t.port p).answers)
      (fun u _ h => (sendTo_answers p _ rfl u).trans h) _ _ rfl
  unfold tellFilled
  split
  · rfl
  · split
    · rw [send, mark]
    · rw [mark]

theorem giveRemedy_answers (announce : Bool) (c : Cell) (r : Remedy) (s : State) :
    ((giveRemedy announce c r s).port p).answers = (s.port p).answers := by
  unfold giveRemedy
  split
  · rfl
  · rw [tellFilled_answers]
    unfold beginClaim
    split
    · unfold sendClaim
      rw [sendTo_answers p _ rfl]
      rfl
    · rfl

theorem chooseRemedy_answers (announce : Bool) (c : Cell) (s : State) :
    ((chooseRemedy announce c s).port p).answers = (s.port p).answers := by
  unfold chooseRemedy
  split
  · rfl
  · split
    · split
      · rw [giveRemedy_answers]
        rfl
      · rw [giveRemedy_answers]
    · rw [giveRemedy_answers]

theorem rechooseAll_answers (announce : Bool) (calls : Cell → Remedy → Bool) (s : State) :
    ((rechooseAll announce calls s).port p).answers = (s.port p).answers := by
  refine foldl_keeps (P := fun t => (t.port p).answers = (s.port p).answers) (f := rechoose announce calls) ?_ _ _ rfl
  intro t c h
  unfold rechoose
  split
  · rw [chooseRemedy_answers, h]
  · exact h

theorem freeSite_answers (announce : Bool) (site : Site) (s : State) :
    ((freeSite announce site s).port p).answers = (s.port p).answers := by
  unfold freeSite
  dsimp only
  split
  · rfl
  · rw [giveRemedy_answers]
    rfl

theorem storeAppend_answers (c : Cell) (o : Origin) (s : State) :
    ((storeAppend c o s).port p).answers = (s.port p).answers := by
  unfold storeAppend queueWrite
  split
  · rfl
  · split <;> rfl

theorem storeRemoval_answers (c : Cell) (s : State) : ((storeRemoval c s).port p).answers = (s.port p).answers := by
  unfold storeRemoval queueWrite
  split
  · rfl
  · split
    · rfl
    · split
      · split <;> rfl
      · rfl

end Answers

/-! ## Service requests (R182) -/

/-- A request of a station, addressed to the tile, is taken after the presence update. -/
theorem receiveRequest_fromStation {s : State} {rx : Rx} (h : FromStation s rx) (tag code : Byte) (arguments : List Byte)
    (hl : arguments.length ≤ 38) :
    receiveRequest rx tag code arguments s = serviceRequest rx tag code arguments (updatePresence rx.src s) := by
  unfold receiveRequest
  rw [if_pos (by simpa [countInRange] using hl), receive_fromStation h]

/-- A request that finds places enough for its answer is handled and answered. -/
theorem serviceRequest_room {s : State} {rx : Rx} (station : rx.src.isStation = true) (here : rx.dst = s.position)
    (tag code : Byte) (arguments : List Byte)
    (room : placesNeeded (readCommand code arguments) + (s.port rx.port).answers.length ≤ 4) :
    serviceRequest rx tag code arguments s =
      (handleRequest rx.port tag code arguments s).2.foldl (answer rx tag)
        (handleRequest rx.port tag code arguments s).1 := by
  unfold serviceRequest
  rw [if_pos ⟨station, here⟩]
  exact if_neg (by show ¬ 4 - (s.port rx.port).answers.length < _; omega)

/-- One answer that finds a place. -/
theorem answer_replied {s : State} {rx : Rx} (tag : Byte) (r : Report) (room : (s.port rx.port).answers.length ≤ 3) :
    answer rx tag s r = s.replied rx tag [r] := by
  unfold answer
  rw [enqueue_answer rfl _ _ (by omega)]
  rfl

end Sys2Proof.Machine
end

