-- ==== Sys2Proof/Laws/Ticks.lean ====
section
/-! SUPPORT. What a tick, a refresh and the timers come to, in the words of the statements. -/

namespace Sys2Proof.Machine

variable (s : State)

/-! ## Timers -/

theorem counted_eq (limit : Nat) (t : Timer) : counted limit t = advanceTimer limit t := by
  cases t with
  | none => rfl
  | some n =>
    simp only [counted, advanceTimer, Option.map_some]
    congr 1
    split <;> omega

theorem hasCome_eq (limit : Nat) (t : Timer) : hasCome limit t = timerReached limit t := rfl

theorem timersCounted_eq : s.timersCounted = advanceTimers s := by
  unfold State.timersCounted advanceTimers
  simp only [counted_eq]
  rfl

/-! ## What falls due (log entry 6) -/

theorem intakeTick_eq : s.intakeTick = intakeDue s := by
  unfold State.intakeTick intakeDue
  cases s.intake.state <;> rfl

theorem holdTick_eq (site : Site) : s.holdTick site = holdDue s site := by
  unfold State.holdTick holdDue State.whenDue
  cases (s.site site).state with
  | held d c timer =>
    simp only [decide_eq_true_eq]
    rfl
  | _ => rfl

theorem retryTick_eq (c : Cell) : s.retryTick c = retryDue s c := by
  unfold State.retryTick retryDue State.whenDue
  rcases s.remedyOf c with _ | r
  · rfl
  · cases r with
    | asking owner site n timer =>
      simp only [decide_eq_true_eq]
      rfl
    | _ => rfl

theorem silenceTick_eq (d : Dir) : s.silenceTick d = silenceDue s d := by
  unfold State.silenceTick silenceDue State.whenDue
  cases s.neighbour d with
  | none => rfl
  | some nb =>
    simp only [Bool.and_eq_true, decide_eq_true_eq]
    rfl

/-- A running refresh timer's expiry is a refresh. -/
theorem after_refreshTimerExpiry {limit : Nat} (h : timerReached limit s.seam.refreshTimer = true) :
    s.after .refreshTimerExpiry = refresh s := by
  have running : s.seam.refreshTimer ≠ none := fun e => by
    rw [e] at h
    cases h
  show settled s (execRefreshTimerExpiry s) = refresh s
  unfold execRefreshTimerExpiry
  rw [if_neg running]
  rfl

theorem refreshTick_eq :
    s.whenDue (hasCome (100 * s.cfg.tRef) s.seam.refreshTimer) .refreshTimerExpiry = refreshDue s := by
  show (if timerReached s.cfg.refreshTicks s.seam.refreshTimer then s.after .refreshTimerExpiry else s) = refreshDue s
  unfold refreshDue
  split
  · rename_i h
    exact after_refreshTimerExpiry s h
  · rfl

theorem storeTick_eq : s.storeTick = storeDue s := by
  unfold State.storeTick storeDue
  cases s.store.state <;> rfl

/-! ## Lists -/

/-- The lists of a direction are those of the tables as the refresh found them, since sending changes none of them. -/
theorem refresh_listsSent : refresh s = { s.listsSent with seam := { s.seam with refreshTimer := some 0 } } := by
  have positions : ∀ d body edge (t : State), (sendTo d body t).filledPositions edge = t.filledPositions edge :=
    fun d body edge t => (sendTo_onlySends d body t).filledPositions edge
  have lent : ∀ d body b (t : State), (sendTo d body t).loansTo b = t.loansTo b :=
    fun d body b t => (sendTo_onlySends d body t).loansTo b
  have held : ∀ d body o (t : State), (sendTo d body t).loansFrom o = t.loansFrom o :=
    fun d body o t => (sendTo_onlySends d body t).loansFrom o
  have seam : ∀ d body (t : State), (sendTo d body t).seam = t.seam := fun d body t => (sendTo_onlySends d body t).seam
  simp only [refresh, Dir.all, List.foldl, sendLists, sendFillList, sendLoanList, sendHoldList, State.listsSent,
    positions, lent, held, seam]

end Sys2Proof.Machine
end

