-- ==== Sys2Proof/Laws/Withdrawals.lean ====
section
/-! SUPPORT. What sites freed together, owners lost and choices made anew come to, in the words of the statements: HOLD_LISTs (R93), silence (R141) and section restart (R150). -/

namespace Sys2Proof.Machine

variable {s : State}

/-! ## Sites freed one after another -/

/-- A site freed while a section restart is made. -/
theorem freeSite_offeredQuietly (site : Site) : freeSite false site s = s.offeredQuietly site := by
  have unfolded : freeSite false site s =
      match s.waiter site with
      | none => s.setSiteState site .free
      | some c => giveRemedy false c (.ownSpare site) ((s.setSiteState site .free).setSiteState site (.own c)) := rfl
  rw [unfolded]
  unfold State.offeredQuietly
  cases h : s.waiter site with
  | none => rfl
  | some c =>
    have hq : s.remedyOf c = some (.fill .quadBusy) := by simpa using List.find?_some h
    obtain ⟨e, he, hr⟩ := retiredEntry_of_remedyOf hq
    have twice : (s.setSiteState site .free).setSiteState site (.own c) = s.setSiteState site (.own c) := by
      simp [State.setSiteState, State.setSite, State.site]
    have filled : e.isFilled = true := by simp [Entry.isFilled, hr, Remedy.isFilled]
    dsimp only
    rw [twice, giveRemedy_told (s := s.setSiteState site (.own c)) (e := e) he, filled]
    rfl

/-- Freeing a site leaves every other site's record. -/
theorem site_freeSite_other (announce : Bool) {site a : Site} (h : site ≠ a) (t : State) :
    (freeSite announce site t).site a = t.site a := by
  rw [site_freeSite, if_neg h]

/-- Sites taken one after another, each by its own state, are the sites whose states called for it at the start. -/
theorem foldl_sites {f g : State → Site → State} {picks : Site → SiteState → Bool}
    (hf : ∀ t a, f t a = if picks a (t.site a).state then g t a else t)
    (hg : ∀ t a a', a ≠ a' → (g t a).site a' = t.site a') (h : State) :
    ∀ (l : List Site), l.Nodup → ∀ t : State, (∀ a ∈ l, t.site a = h.site a) →
      l.foldl f t = (l.filter fun a => picks a (h.site a).state).foldl g t
  | [], _, _, _ => rfl
  | a :: l, nodup, t, same => by
    obtain ⟨ha, hl⟩ := List.nodup_cons.mp nodup
    have here : t.site a = h.site a := same a List.mem_cons_self
    rw [List.foldl_cons, hf, here]
    by_cases p : picks a (h.site a).state = true
    · rw [if_pos p, List.filter_cons, if_pos p, List.foldl_cons]
      refine foldl_sites hf hg h l hl _ fun b hb => ?_
      have : a ≠ b := fun e => ha (e ▸ hb)
      rw [hg _ _ _ this]
      exact same b (List.mem_cons_of_mem _ hb)
    · rw [if_neg p, List.filter_cons, if_neg p]
      exact foldl_sites hf hg h l hl _ fun b hb => same b (List.mem_cons_of_mem _ hb)

theorem allSites_nodup : allSites.Nodup := by
  refine (List.nodup_finRange 256).map fun a b h => ?_
  have := congrArg Site.index h
  simpa using this

/-- The sites that a HOLD_LIST leaves out are freed and offered (R93). -/
theorem foldl_checkHold (b : BorrowerDir) (pairs : List LoanPair) :
    allSites.foldl (checkHold b pairs) s =
      (s.sitesThat fun site state =>
        match state with
        | .lent d c => decide (d = b ∧ (⟨site, c⟩ : LoanPair) ∉ pairs)
        | _ => false).foldl State.offered s := by
  refine foldl_sites (g := State.offered)
    (picks := fun site state =>
      match state with
      | .lent d c => decide (d = b ∧ (⟨site, c⟩ : LoanPair) ∉ pairs)
      | _ => false) (fun t a => ?_) (fun t a a' h => ?_) s allSites allSites_nodup s fun _ _ => rfl
  · unfold checkHold
    rw [← freeSite_offered]
    cases (t.site a).state with
    | lent d c =>
      simp only [decide_eq_true_eq]
    | _ => rfl
  · rw [← freeSite_offered]
    exact site_freeSite_other true h t

/-- The sites lost with their neighbours are freed and offered, with lists of their own or without (R94). -/
theorem freeLost_sites (announce : Bool) (lost : BorrowerDir → Bool) :
    freeLost announce lost s =
      (s.sitesThat fun _ state => state.givenTo lost).foldl (fun t a => freeSite announce a t) s := by
  refine foldl_sites (g := fun t a => freeSite announce a t) (picks := fun _ state => state.givenTo lost)
    (fun t a => ?_) (fun t a a' h => site_freeSite_other announce h t) s allSites allSites_nodup s fun _ _ => rfl
  unfold freeIfLost
  have same : ∀ st : SiteState, st.dependsOn lost = st.givenTo lost := fun st => by cases st <;> rfl
  rw [same]

/-- With lists of their own, while RUN goes on. -/
theorem freeLost_offered (lost : BorrowerDir → Bool) :
    freeLost true lost s = (s.sitesThat fun _ state => state.givenTo lost).foldl State.offered s := by
  rw [freeLost_sites]
  congr 1
  funext t a
  exact freeSite_offered a

/-- Without lists of their own, at a section restart. -/
theorem freeLost_offeredQuietly (lost : BorrowerDir → Bool) :
    freeLost false lost s = (s.sitesThat fun _ state => state.givenTo lost).foldl State.offeredQuietly s := by
  rw [freeLost_sites]
  congr 1
  funext t a
  exact freeSite_offeredQuietly a

/-! ## Owners lost, choices made anew -/

/-- One entry whose owner is lost (R133). -/
theorem dropIfLost_ownerLost (announce : Bool) (lost : OwnerDir → Bool) (t : State) (c : Cell) :
    dropIfLost announce lost t c = t.ownerLost announce lost c := by
  unfold dropIfLost State.ownerLost
  cases h : t.remedyOf c with
  | none => rfl
  | some r =>
    obtain ⟨e, he, hr⟩ := retiredEntry_of_remedyOf h
    cases r with
    | loan owner site =>
      have unfilled : e.isFilled = false := by simp [Entry.isFilled, hr, Remedy.isFilled]
      simp only [Option.any_some, Remedy.dependsOn]
      rw [giveRemedy_told he, unfilled]
      rfl
    | asking owner site n timer =>
      have filled : e.isFilled = true := by simp [Entry.isFilled, hr, Remedy.isFilled]
      simp only [Option.any_some, Remedy.dependsOn]
      rw [giveRemedy_told he, filled]
      rfl
    | ownSpare site => rfl
    | fill reason => rfl

/-- One entry's choice made anew at a section restart (R79). -/
theorem rechoose_chosenAnew (t : State) (c : Cell) : rechoose false callsForChoice t c = t.chosenAnew c := by
  unfold rechoose State.chosenAnew
  cases t.remedyOf c with
  | none => rfl
  | some r => cases r <;> rfl

/-! ## Which cells the table lists -/

/-- A remedy given, a site freed or a choice made leaves the cells of the table and their order. -/
theorem cells_kept (cells : List Cell) : RemedyKept fun t => t.entries.map Entry.cell = cells where
  remedy c r t h := by
    rw [← h]
    exact changeEntry_cells c _ (fun e => withRemedy_cell e r) t.entries
  site a r t h := h
  enqueue p n t h := by rw [(enqueue_onlySends p n t).entries]; exact h
  mark edge p b t h := h

end Sys2Proof.Machine
end

