-- ==== Sys2Proof/Tests/Slice0.lean ====
section
/-! SUPPORT. The model's own tests: the ill-formed commands that are refused, worked examples of the spec on small states, and for every statement with hypotheses a state and operands that meet them. -/

namespace Sys2Proof.Tests

open Sys2Proof.Machine

-- One theorem at a time: the kernel evaluations below are long, and side by side they want a thread each.
set_option Elab.async false

/-! ## Small states -/

/-- A part in RUN at (2, 2), every site FREE and proven, all six neighbours UNHEARD. -/
def running : State :=
  { State.starting ⟨2, 2⟩ true [] with
    mode := .run
    loadPhase := .complete
    sites := Tbl.fill 256 ⟨.free, true, 0, .never⟩
    seam := { Seam.cleared with neighbours := neighbourTable ⟨2, 2⟩ Configuration.defaults, refreshTimer := some 0 }
    ports := ⟨{ Port.cleared with state := .ready }, { Port.cleared with state := .ready }⟩
    probe := { Probe.cleared with stallTimer := some 0 }
    supply := ⟨true, .good, 0⟩ }

/-- The same with all six neighbours PRESENT. -/
def amongNeighbours : State :=
  { running with seam := { running.seam with
      neighbours := running.seam.neighbours.map fun nb =>
        nb.map fun n => { n with presence := .present, quiet := some 0 } } }

/-- A RETIRED entry with a remedy. -/
def retiredWith (c : Cell) (r : Remedy) : Entry := ⟨c, .detected, .retired (some r) 0 false⟩

/-- A RETIRED entry whose remedy is not chosen yet. -/
def unremedied (c : Cell) : Entry := ⟨c, .detected, .retired none 0 false⟩

/-- A DIM entry. -/
def dimmed (c : Cell) : Entry := ⟨c, .detected, .dim ⟨5851, 4096, 4096⟩⟩

/-- A state with these entries, each cell in the condition its entry shows. -/
def listing (es : List Entry) (s : State) : State :=
  es.foldl (fun t e => t.changeCell e.cell fun r => { r with condition := e.condition }) { s with entries := es }

/-- A full remap table: cells of the first rows, all RETIRED. -/
def fullOfRetired : List Entry :=
  (List.finRange 128).map fun n => retiredWith (Cell.ofIndex ⟨n.val, by omega⟩) (.fill .quadBusy)

/-- A full remap table whose newest entry is DIM. -/
def fullWithDim : List Entry := fullOfRetired.take 127 ++ [dimmed ⟨20, 20⟩]

/-- A cell far from the border. -/
def inner : Cell := ⟨14, 9⟩

/-- A state with one verdict handed to the Condition Tracker, and its cell in a condition with runs. -/
def judging (v : CellVerdict) (c : Condition) (fault weak healthy : Nat) (s : State) : State :=
  { s.changeCell v.cell fun r => { r.withRuns fault weak healthy with condition := c } with
    handed := { Handed.nothing with cellVerdicts := [v] } }

/-- A verdict for the inner cell. -/
def verdict (j : Judgement) : CellVerdict := ⟨inner, j, ⟨0, 0, 0⟩, 46⟩

/-- Where a notice of the neighbour in a direction is read, addressed to the part at (2, 2). -/
def rxFrom : Dir → Rx
  | .n => ⟨.a, ⟨2, 1⟩, ⟨2, 2⟩⟩
  | .e => ⟨.a, ⟨3, 2⟩, ⟨2, 2⟩⟩
  | .s => ⟨.a, ⟨2, 3⟩, ⟨2, 2⟩⟩
  | .w => ⟨.a, ⟨1, 2⟩, ⟨2, 2⟩⟩
  | .nw => ⟨.a, ⟨1, 1⟩, ⟨2, 2⟩⟩
  | .se => ⟨.a, ⟨3, 3⟩, ⟨2, 2⟩⟩

/-- Where a request of a service station is read, addressed to the part at (2, 2). -/
def rxStation : Rx := ⟨.b, ⟨127, 5⟩, ⟨2, 2⟩⟩

/-- The state after a command. -/
def run (c : Instr) (s : State) : State := settled s (exec c s)

/-- A port with answers waiting. -/
def answering (n : Nat) (s : State) : State :=
  s.setPort .b { s.port .b with
    answers := List.replicate n ⟨⟨2, 2⟩, ⟨127, 5⟩, (ackReport .done).body 0⟩ }

/-! ## Ill-formed commands are refused -/

theorem test_refuses_a_report_of_145_samples :
    (Instr.senseReport 0 (List.replicate 145 0)).wellFormed = false := by decide +kernel

theorem test_refuses_well_formed_bits_as_malformed :
    (Instr.noticeMalformed .a (noticeBits ⟨⟨2, 1⟩, ⟨2, 2⟩, .sectionRestart⟩)).wellFormed = false := by decide +kernel

theorem test_refuses_a_hold_list_of_17 :
    (Instr.holdListReceived rxStation (List.replicate 17 ⟨⟨0, 0⟩, ⟨0, 0⟩⟩)).wellFormed = false := by decide +kernel

theorem test_refuses_a_loan_list_of_17 :
    (Instr.loanListReceived rxStation (List.replicate 17 ⟨⟨0, 0⟩, ⟨0, 0⟩⟩)).wellFormed = false := by decide +kernel

theorem test_refuses_a_fill_list_of_33 :
    (Instr.fillListReceived rxStation .n (List.replicate 33 0)).wellFormed = false := by decide +kernel

theorem test_refuses_a_report_body_of_39_bytes :
    (Instr.reportReceived rxStation 0 0 (List.replicate 39 0)).wellFormed = false := by decide +kernel

theorem test_refuses_39_argument_bytes :
    (Instr.serviceRequestUnknown rxStation 0 9 (List.replicate 39 0)).wellFormed = false := by decide +kernel

theorem test_refuses_a_known_request_as_unknown :
    (Instr.serviceRequestUnknown rxStation 0 6 []).wellFormed = false := by decide +kernel

theorem test_accepts_the_largest_counts :
    (Instr.senseReport 0 (List.replicate 144 0)).wellFormed = true ∧
      (Instr.holdListReceived rxStation (List.replicate 16 ⟨⟨0, 0⟩, ⟨0, 0⟩⟩)).wellFormed = true ∧
      (Instr.fillListReceived rxStation .n (List.replicate 32 0)).wellFormed = true ∧
      (Instr.reportReceived rxStation 0 0 (List.replicate 38 0)).wellFormed = true ∧
      (Instr.serviceRequestUnknown rxStation 0 9 (List.replicate 38 0)).wellFormed = true ∧
      (Instr.noticeMalformed .a [true]).wellFormed = true := by decide +kernel

/-! ## Worked examples of the spec -/

/-- The five cells worked in chapter 1. -/
theorem test_home_sites :
    Cell.home ⟨0, 0⟩ = .own ⟨0, 0⟩ ∧ Cell.home ⟨17, 4⟩ = .own ⟨9, 2⟩ ∧ Cell.home ⟨18, 3⟩ = .own ⟨9, 2⟩ ∧
      Cell.home ⟨31, 12⟩ = .foreign .e ⟨0, 6⟩ ∧ Cell.home ⟨31, 31⟩ = .foreign .se ⟨0, 0⟩ := by decide +kernel

/-- The four cells of a corner meet in the quad of site (0, 0) (R4, R11, R12). -/
theorem test_corner_quad :
    Cell.inQuadFrom ⟨31, 31⟩ .nw ⟨0, 0⟩ = true ∧ Cell.inQuadFrom ⟨0, 31⟩ .n ⟨0, 0⟩ = true ∧
      Cell.inQuadFrom ⟨31, 0⟩ .w ⟨0, 0⟩ = true ∧ Cell.inQuadFrom ⟨1, 31⟩ .n ⟨0, 0⟩ = false := by decide +kernel

/-- CRC-8 with x^8 + x^2 + x + 1 of the nine digits is F4 (log entry 11). -/
theorem test_crc_of_digits :
    crc8Bytes [0x31, 0x32, 0x33, 0x34, 0x35, 0x36, 0x37, 0x38, 0x39] = 0xF4#8 := by decide +kernel

theorem test_claim_reads_back :
    readNotice (noticeBits ⟨⟨10, 5⟩, ⟨11, 5⟩, .claim ⟨31, 8⟩ ⟨0, 4⟩ 15⟩) =
      some ⟨⟨10, 5⟩, ⟨11, 5⟩, .claim ⟨31, 8⟩ ⟨0, 4⟩ 15⟩ := by decide +kernel

theorem test_fill_list_reads_back :
    readNotice (noticeBits ⟨⟨10, 5⟩, ⟨11, 5⟩, .fillList .e [8, 20, 31]⟩) =
      some ⟨⟨10, 5⟩, ⟨11, 5⟩, .fillList .e [8, 20, 31]⟩ := by decide +kernel

/-- A wrong check bit makes a notice malformed (R155, R156). -/
theorem test_wrong_check_is_malformed :
    readNotice ((noticeBits ⟨⟨10, 5⟩, ⟨11, 5⟩, .sectionRestart⟩).dropLast ++ [true]) = none ∨
      readNotice ((noticeBits ⟨⟨10, 5⟩, ⟨11, 5⟩, .sectionRestart⟩).dropLast ++ [false]) = none := by decide +kernel

/-- The window of the case of section 6.10, around cell (20, 12). -/
def windowOfCase : Intake :=
  let put (t : Tbl 3468 Code) (e : ExtCell) (r g b : Code) : Tbl 3468 Code :=
    [(Colour.r, r), (Colour.g, g), (Colour.b, b)].foldl (fun t kv =>
      match windowPlace e kv.1 with
      | some place => t.set place kv.2
      | none => t) t
  ⟨put (put (put (Tbl.fill 3468 0) ⟨20, 12⟩ 40000 20000 10000) ⟨21, 12⟩ 30000 30000 30000) ⟨20, 13⟩ 50000 10000 0,
    none, .receiving, some 0⟩

/-- The snapshot of the same case. -/
def snapshotOfCase : Snapshot :=
  { Snapshot.empty with entries :=
      [.dim ⟨20, 12⟩ ⟨5851, 4096, 4096⟩, .retired ⟨21, 12⟩ true, .retired ⟨20, 13⟩ true, .retired ⟨20, 11⟩ false] }

/-- The drive worked in section 6.10. -/
theorem test_drive_of_a_dim_cell_beside_two_filled :
    [Colour.r, .g, .b].map (cellDrive 8 windowOfCase snapshotOfCase ⟨20, 12⟩) = [65535, 25000, 13750] ∧
      [Colour.r, .g, .b].map (cellDrive 8 windowOfCase snapshotOfCase ⟨21, 12⟩) = [0, 0, 0] ∧
      [Colour.r, .g, .b].map (cellDrive 8 windowOfCase snapshotOfCase ⟨22, 12⟩) = [3750, 3750, 3750] := by
  decide +kernel

/-- The apron cells of section 6.11: where W's lent-to cell and its filled cell are seen. -/
theorem test_apron_of_the_lent_case :
    Cell.seenFrom ⟨31, 5⟩ .w = ⟨-1, 5⟩ ∧ Cell.inQuadFrom ⟨31, 5⟩ .w ⟨0, 3⟩ = true ∧
      Edge.apronCell .w 7 = ⟨-1, 7⟩ := by decide +kernel

/-- The sequence of section 3.7 for cell (14, 9): GOOD, DIM at the second WEAK, RETIRED at the third FAULT, its home site (7, 5) taken. -/
theorem test_a_cell_dims_and_then_fails :
    let weak (g : Nat) (s : State) : State :=
      run .cellVerdict { s with handed := { Handed.nothing with cellVerdicts := [verdict (.weak ⟨g, 4096, 4096⟩)] } }
    let fault (s : State) : State :=
      run .cellVerdict { s with handed := { Handed.nothing with cellVerdicts := [verdict .fault] } }
    let dim := weak 5900 (weak 5851 running)
    let gone := fault (weak 8400 (fault (weak 6120 dim)))
    (dim.cell inner).condition = .dim ∧ dim.entries = [⟨inner, .detected, .dim ⟨5900, 4096, 4096⟩⟩] ∧
      (gone.cell inner).condition = .retired ∧
      gone.entries = [⟨inner, .detected, .retired (some (.ownSpare ⟨7, 5⟩)) 46 false⟩] ∧
      (gone.site ⟨7, 5⟩).state = .own inner ∧
      gone.store.pendingWrites = [.append inner .detected] := by decide +kernel

/-! ## Commands on small states -/

theorem test_load_without_a_store :
    let s := run .enterRun (run .storeMissingTimeout (run .supplyHigh (run (.powerOn ⟨2, 2⟩) State.reset)))
    s.mode = .run ∧ s.configDefault = true ∧ s.store.state = .missing ∧ s.supply.state = .good ∧
      s.supply.countdown = 8 ∧ (s.site ⟨15, 15⟩).state = .free ∧
      (s.neighbour .se).map Neighbour.position = some ⟨3, 3⟩ ∧ s.ports.a.notices.length = 10 := by decide +kernel

theorem test_store_answers_at_the_load : (run .storeReadyAtLoad State.reset).loadPhase = .configuration := by
  decide +kernel

theorem test_configuration_defaults_without_the_format_word :
    (run (.configRecordRead (Tbl.fill 32 0)) { State.reset with loadPhase := .configuration }).configDefault = true := by
  decide +kernel

theorem test_calibration_value_is_clamped :
    calibrationValue (Tbl.fill 7681 0xFF#8) 3839 = 4095 ∧ calibrationValue (Tbl.fill 7681 0x02#8) 0 = 514 := by
  decide +kernel

/-- The bytes of a retired list area whose first two slots hold cell (31, 31), whose third is void and whose fourth has a wrong check. -/
def areaOfCorner : Tbl 512 Byte :=
  let corner := slotBytes ⟨31, 31⟩ .detected
  ⟨corner ++ corner ++ [0x00#8, 0xFF#8, 0xFF#8, 0xFF#8] ++ [0xA5#8, 0x00#8, 0x00#8, 0xFF#8] ++
    List.replicate 496 0xFF#8, by decide +kernel⟩

theorem test_retired_list_with_a_duplicate :
    let s := run (.retiredListRead areaOfCorner) { State.reset with loadPhase := .retiredList }
    s.loadPhase = .complete ∧ s.entries = [⟨⟨31, 31⟩, .stored, .retired none 0 true⟩] ∧
      (s.cell ⟨31, 31⟩).condition = .retired ∧ s.store.duplicates = [1] ∧
      s.store.slots.get 0 = .live ⟨31, 31⟩ ∧ s.store.slots.get 2 = .void ∧ s.store.slots.get 3 = .void ∧
      s.store.slots.get 127 = .empty := by
  decide +kernel

theorem test_reset_line : (run .resetAssert running).mode = .held ∧
    (run (.resetRelease ⟨5, 6⟩) (run .resetAssert running)).position = ⟨5, 6⟩ := by decide +kernel

theorem test_frame_begin_opens_a_window :
    (run (.videoCode 7) (run .frameBeginMarker running)).intake.receiving = some [7] := by decide +kernel

theorem test_loss_hold :
    let receiving := { running with
      intake := { running.intake with state := .receiving }, render := { running.render with sending := none } }
    let lost := run .lossTimerLost receiving
    lost.intake.state = .lost ∧ lost.render.sending = some (.reEmitted, DriveFrame.zeros) ∧
      lost.flags.videoLostSeen = true ∧ (run .lossTimerDark lost).intake.state = .dark ∧
      (run .driveFrameSent lost).render.sending = none := by decide +kernel

theorem test_re_emission_and_dark_frame :
    (run .reEmitTick { running with
      intake := { running.intake with state := .lost }, render := { running.render with sending := none } }).render.sending
        = some (.reEmitted, DriveFrame.zeros) ∧
    (run .darkFrameTick { running with render := { running.render with sending := none } }).render.sending
        = some (.dark, DriveFrame.zeros) := by decide +kernel

theorem test_a_counted_report :
    let s := { running with probe := { running.probe with
      plan := some (probePlan running.cfg running.probe), clean := true } }
    let t := run (.senseReport 0 (List.replicate 144 4095)) s
    t.probe.n = 1 ∧ t.probe.onCount = 1 ∧ t.probe.chip = 48 ∧ t.probe.onSum.get 143 = 4095 ∧
      t.probe.sat.get 0 = true ∧ t.probe.plan = none := by decide +kernel

theorem test_stall_and_override :
    (run .stallTimerExpiry { running with probe := { running.probe with n := 5, onCount := 3 } }).probe.n = 0 ∧
      (run .overrideAppend { running with handed := { Handed.nothing with appendRequests := [9] } }).probe.overrides
        = [9] := by decide +kernel

theorem test_supply_pin :
    (run .supplyLow running).flags.supplyDip = true ∧
      (run .supplyHigh (run .supplyLow running)).supply = ⟨true, .good, 8⟩ := by decide +kernel

theorem test_site_verdict_proves :
    let s := (running.setSite ⟨3, 3⟩ ⟨.free, false, 1, .fault⟩)
    (run .siteVerdict { s with handed := { Handed.nothing with siteVerdicts := [⟨⟨3, 3⟩, .weak⟩] } }).site ⟨3, 3⟩
      = ⟨.free, true, 0, .weak⟩ := by decide +kernel

theorem test_sweep_end_claims_again :
    let s := listing [retiredWith ⟨31, 12⟩ (.fill .noAnswer)] amongNeighbours
    let t := run .sweepEnd { s with handed := { Handed.nothing with sweepEnds := 1 } }
    t.remedyOf ⟨31, 12⟩ = some (.asking .e ⟨0, 6⟩ 1 0) ∧
      t.ports.a.notices = [⟨⟨2, 2⟩, ⟨3, 2⟩, .claim ⟨31, 12⟩ ⟨0, 6⟩ 0⟩] := by decide +kernel

theorem test_claim_retries :
    let s (n : Nat) := listing [retiredWith ⟨31, 12⟩ (.asking .e ⟨0, 6⟩ n 25)] amongNeighbours
    (run (.claimRetryExpiry ⟨31, 12⟩) (s 15)).remedyOf ⟨31, 12⟩ = some (.asking .e ⟨0, 6⟩ 16 0) ∧
      (run (.claimRetryExpiry ⟨31, 12⟩) (s 15)).ports.a.notices
        = [⟨⟨2, 2⟩, ⟨3, 2⟩, .claim ⟨31, 12⟩ ⟨0, 6⟩ 15⟩] ∧
      (run (.claimRetryExpiry ⟨31, 12⟩) (s 16)).remedyOf ⟨31, 12⟩ = some (.fill .noAnswer) := by decide +kernel

theorem test_hold_ends_and_the_waiter_takes_the_site :
    let s := (listing [retiredWith ⟨0, 0⟩ (.fill .quadBusy)] amongNeighbours).setSiteState ⟨0, 0⟩ (.held .n ⟨0, 31⟩ 500)
    let t := run (.holdExpiry ⟨0, 0⟩) s
    (t.site ⟨0, 0⟩).state = .own ⟨0, 0⟩ ∧ t.remedyOf ⟨0, 0⟩ = some (.ownSpare ⟨0, 0⟩) := by decide +kernel

theorem test_neighbour_silence_ends_a_loan :
    let s := listing [retiredWith ⟨31, 12⟩ (.loan .e ⟨0, 6⟩)] amongNeighbours
    let t := run (.neighbourSilent .e) s
    t.remedyOf ⟨31, 12⟩ = some (.fill .ownerSilent) ∧ t.neighbour .e = some ⟨⟨3, 2⟩, .silent, some 3000⟩ := by
  decide +kernel

theorem test_refresh_fills_the_queue :
    (run .refreshTimerExpiry running).ports.a.notices.length = 10 := by decide +kernel

/-- One attempt at a port: taken at an idle gap, lost, tried again, failed once, won. -/
theorem test_sending_on_a_line :
    let s := run (.idleGapAttempt .a) (enqueue .a ⟨⟨2, 2⟩, ⟨3, 2⟩, .release ⟨0, 6⟩ ⟨31, 12⟩⟩ running)
    s.ports.a.attempt.isSome = true ∧ (run (.contentionLost .a) s).ports.a.current.isSome = true ∧
      (run (.contentionLost .a) s).ports.a.attempt = none ∧ (run (.attemptFailed .a) s).ports.a.failCount = 1 ∧
      (run (.attemptWon .a) s).ports.a = { Port.cleared with state := .ready } := by decide +kernel

theorem test_port_quiet_ends :
    (run (.quietTimerExpiry .b) (running.setPort .b { Port.cleared with state := .quiet, quietTimer := some 100 })).ports.b
      = { Port.cleared with state := .ready } := by decide +kernel

theorem test_malformed_bits_are_discarded : run (.noticeMalformed .a [true, false]) State.reset = State.reset := by
  rfl

/-- An unproven corner site is held for the claimant and its diagonal asked for (R88, R89). -/
theorem test_claim_is_made_to_wait :
    let s := amongNeighbours.setSite ⟨0, 0⟩ ⟨.free, false, 0, .never⟩
    let t := run (.claimReceived (rxFrom .nw) ⟨31, 31⟩ ⟨0, 0⟩ 0) s
    (t.site ⟨0, 0⟩).state = .held .nw ⟨31, 31⟩ 0 ∧ t.handed.appendRequests = [0] ∧
      t.ports.a.answers = [⟨⟨2, 2⟩, ⟨1, 1⟩, .wait ⟨0, 0⟩ ⟨31, 31⟩⟩] := by decide +kernel

/-- A cell that is not of the site's quad is refused WRONG_SITE, an unmatched GRANT given back (R88, R120). -/
theorem test_wrong_site_and_unmatched_grant :
    (run (.claimReceived (rxFrom .n) ⟨1, 31⟩ ⟨0, 0⟩ 0) amongNeighbours).ports.a.answers
        = [⟨⟨2, 2⟩, ⟨2, 1⟩, .refuse ⟨0, 0⟩ ⟨1, 31⟩ 4⟩] ∧
      (run (.grantReceived (rxFrom .e) ⟨0, 6⟩ ⟨31, 12⟩) amongNeighbours).ports.a.notices
        = [⟨⟨2, 2⟩, ⟨3, 2⟩, .release ⟨0, 6⟩ ⟨31, 12⟩⟩] := by decide +kernel

theorem test_answers_to_a_claim :
    let s := listing [retiredWith ⟨31, 12⟩ (.asking .e ⟨0, 6⟩ 3 20)] amongNeighbours
    (run (.grantReceived (rxFrom .e) ⟨0, 6⟩ ⟨31, 12⟩) s).remedyOf ⟨31, 12⟩ = some (.loan .e ⟨0, 6⟩) ∧
      (run (.waitReceived (rxFrom .e) ⟨0, 6⟩ ⟨31, 12⟩) s).remedyOf ⟨31, 12⟩ = some (.asking .e ⟨0, 6⟩ 3 0) ∧
      (run (.refuseReceived (rxFrom .e) ⟨0, 6⟩ ⟨31, 12⟩ 2) s).remedyOf ⟨31, 12⟩ = some (.fill .refusedFaulty) ∧
      (run (.revokeReceived (rxFrom .e) ⟨0, 6⟩ ⟨31, 12⟩) s).remedyOf ⟨31, 12⟩ = some (.fill .revoked) := by decide +kernel

theorem test_lists_end_loans :
    let lent := amongNeighbours.setSiteState ⟨0, 0⟩ (.lent .n ⟨0, 31⟩)
    ((run (.holdListReceived (rxFrom .n) []) lent).site ⟨0, 0⟩).state = .free ∧
      ((run (.releaseReceived (rxFrom .n) ⟨0, 0⟩ ⟨0, 31⟩) lent).site ⟨0, 0⟩).state = .free := by decide +kernel

theorem test_loan_list_omits_a_loan :
    (run (.loanListReceived (rxFrom .e) []) (listing [retiredWith ⟨31, 12⟩ (.loan .e ⟨0, 6⟩)] amongNeighbours)).remedyOf
      ⟨31, 12⟩ = some (.asking .e ⟨0, 6⟩ 1 0) := by decide +kernel

theorem test_fill_list_from_the_west :
    (run (.fillListReceived (rxFrom .w) .e [7, 7, 9]) amongNeighbours).seam.foreignFills = [⟨.w, 7⟩, ⟨.w, 9⟩] ∧
      (run (.fillListReceived (rxFrom .w) .n [7]) amongNeighbours).seam.foreignFills = [] := by decide +kernel

theorem test_any_notice_makes_its_sender_present :
    ((run (.reportReceived (rxFrom .w) 0 0 []) running).neighbour .w).map Neighbour.presence = some .present := by
  decide +kernel

theorem test_section_restart :
    let t := run (.sectionRestart ⟨.a, ⟨127, 0⟩, Pos.everyone⟩) (listing [retiredWith ⟨31, 12⟩ (.loan .e ⟨0, 6⟩)] amongNeighbours)
    t.remedyOf ⟨31, 12⟩ = some (.fill .ownerSilent) ∧ (t.neighbour .e).map Neighbour.presence = some .unheard := by
  decide +kernel

/-- The answers to a request, with its tag remembered. -/
def answersTo (c : Instr) (s : State) : List Notice := (run c s).ports.b.answers

theorem test_queries_are_answered :
    (answersTo (.querySummary rxStation 9) running).length = 2 ∧
      answersTo (.queryCell rxStation 9 32 0) running
        = [⟨⟨2, 2⟩, ⟨127, 5⟩, .report 9 0 [3]⟩] ∧
      answersTo (.querySite rxStation 9 0 16) running
        = [⟨⟨2, 2⟩, ⟨127, 5⟩, .report 9 0 [4]⟩] ∧
      answersTo (.queryEntry rxStation 9 1) running
        = [⟨⟨2, 2⟩, ⟨127, 5⟩, .report 9 3 [1, 0]⟩] := by decide +kernel

theorem test_mark_and_restore :
    let marked := run (.mark rxStation 1 14 9) running
    let restored := run (.restore rxStation 2 14 9) marked
    marked.entries = [⟨inner, .marked, .retired (some (.ownSpare ⟨7, 5⟩)) 0 false⟩] ∧
      marked.ports.b.answers = [⟨⟨2, 2⟩, ⟨127, 5⟩, .report 1 0 [0]⟩] ∧
      restored.entries = [] ∧ (restored.site ⟨7, 5⟩).state = .free ∧ restored.store.pendingWrites = [] := by decide +kernel

theorem test_a_repeated_tag_is_not_carried_out :
    answersTo (.mark rxStation 1 0 0) (run (.mark rxStation 1 14 9) running)
      = [⟨⟨2, 2⟩, ⟨127, 5⟩, .report 1 0 [0]⟩, ⟨⟨2, 2⟩, ⟨127, 5⟩, .report 1 0 [1]⟩] := by decide +kernel

theorem test_acting_requests :
    (run (.clearFlags rxStation 1) (running.raise .storeFull)).flags = Flags.clear ∧
      (run (.rescan rxStation 1) { running with probe := { running.probe with p := 7 } }).probe.p = 0 ∧
      (run (.clearRetired rxStation 1) running).store.state = .erasing ∧
      answersTo (.serviceRequestUnknown rxStation 1 9 []) running = [⟨⟨2, 2⟩, ⟨127, 5⟩, .report 1 0 [2]⟩] := by
  decide +kernel

/-- A state with an append of the inner cell waiting in the store. -/
def appending : State := storeAppend inner .detected (listing [retiredWith inner (.ownSpare ⟨7, 5⟩)] running)

theorem test_a_slot_is_written :
    let writing := run .storeWriteBegin appending
    let bytes : Tbl 4 Byte := ⟨slotBytes inner .detected, by decide +kernel⟩
    writing.store.state = .writing ∧ writing.store.slots.get 0 = .live inner ∧
      (run (.storeWriteEnd false bytes) writing).entries
        = [⟨inner, .detected, .retired (some (.ownSpare ⟨7, 5⟩)) 0 true⟩] ∧
      (run .storeWriteTimeout writing).store.slots.get 0 = .void ∧
      (run .storeWriteTimeout writing).flags.storeFault = true := by decide +kernel

theorem test_an_erase_ends :
    let erasing := run (.clearRetired rxStation 1) running
    (run (.storeEraseEnd false) erasing).store.slots = Tbl.fill 128 .empty ∧
      (run .storeEraseTimeout erasing).store.slots = Tbl.fill 128 .void := by decide +kernel

/-- A step takes the front command; with none, the work handed on (log entry 5). -/
theorem test_steps :
    (settled running (step { running with pending := [.supplyLow, .supplyHigh] })).pending = [.supplyHigh] ∧
      (settled running (step { running with handed := { Handed.nothing with appendRequests := [3] } })).probe.overrides
        = [3] := by decide +kernel

/-- The stall timer counts to 999 and expires at 1000, a hold counts to 499 and ends at 500 (log entry 5). -/
theorem test_ticks :
    let at_ (stall hold : Nat) : State :=
      settled running (step { running.setSiteState ⟨0, 0⟩ (.held .n ⟨0, 31⟩ hold) with
        probe := { running.probe with n := 5, stallTimer := some stall } })
    (at_ 998 498).probe.stallTimer = some 999 ∧ (at_ 998 498).probe.n = 5 ∧
      ((at_ 998 498).site ⟨0, 0⟩).state = .held .n ⟨0, 31⟩ 499 ∧
      (at_ 999 499).probe.stallTimer = some 0 ∧ (at_ 999 499).probe.n = 0 ∧
      ((at_ 999 499).site ⟨0, 0⟩).state = .free := by decide +kernel

/-! ## Witnesses: what the hypotheses of the statements are met by, clause by clause -/

theorem witness_EmptyQueueStep :
    State.reset.pending = [] ∧ (run .resetAssert running).mode = .held ∧
      { State.reset with loadPhase := .complete }.mode = .loading ∧
      { running with handed := { Handed.nothing with appendRequests := [3] } }.handed.appendRequests ≠ [] ∧
      (judging (verdict .fault) .good 0 0 0 running).handed.appendRequests = [] ∧
      (judging (verdict .fault) .good 0 0 0 running).handed.cellVerdicts ≠ [] ∧
      { running with handed := { Handed.nothing with siteVerdicts := [⟨⟨0, 0⟩, .none⟩] } }.handed.siteVerdicts ≠ [] ∧
      { running with handed := { Handed.nothing with sweepEnds := 1 } }.handed.sweepEnds ≠ 0 ∧
      appending.handed = Handed.nothing ∧ appending.store.state = .idle ∧ appending.mode = .run ∧
      appending.store.pendingWrites ≠ [] ∧
      running.pending = [] ∧ running.mode = .run ∧ running.handed = Handed.nothing ∧
      ¬ (running.store.rewrite ≠ [] ∨ running.store.pendingWrites ≠ []) ∧
      State.reset.mode = .loading ∧ State.reset.loadPhase ≠ .complete ∧ State.reset.handed = Handed.nothing := by
  decide +kernel

theorem witness_StorePolledAtLoad :
    (State.reset.mode = .loading ∧ State.reset.loadPhase = .pollStore) ∧
      ¬ (running.mode = .loading ∧ running.loadPhase = .pollStore) := by decide +kernel

/-- A matching record with these two threshold bytes. -/
def recordWith (dead weak : Byte) : Tbl 32 Byte :=
  ((((Tbl.fill 32 0).set 0 0x32#8).set 1 0x01#8).set 4 dead).set 5 weak

theorem witness_ConfigurationFieldsClamped :
    let s := { State.reset with loadPhase := .configuration }
    let dead (b : Tbl 32 Byte) := nearest 1 15 (b.get 4).toNat
    let weak (b : Tbl 32 Byte) := nearest 1 15 (b.get 5).toNat
    s.mode = .loading ∧ s.loadPhase = .configuration ∧
      (∀ d w, (recordWith d w).get 0 = 0x32#8 ∧ (recordWith d w).get 1 = 0x01#8) ∧
      dead (recordWith 14 15) < weak (recordWith 14 15) ∧
      (weak (recordWith 14 14) ≤ dead (recordWith 14 14) ∧ dead (recordWith 14 14) < 15) ∧
      (weak (recordWith 15 15) ≤ dead (recordWith 15 15) ∧ dead (recordWith 15 15) = 15) :=
  ⟨rfl, rfl, fun _ _ => ⟨rfl, rfl⟩, by decide +kernel, by decide +kernel, by decide +kernel⟩

theorem witness_ConfigurationDefaults :
    { State.reset with loadPhase := .configuration }.mode = .loading ∧
      ¬ ((Tbl.fill 32 0xFF#8).get 0 = 0x32#8 ∧ (Tbl.fill 32 0xFF#8).get 1 = 0x01#8) := by decide +kernel

theorem witness_CalibrationTaken_RetiredListTaken :
    { State.reset with loadPhase := .calibration }.mode = .loading ∧
      { State.reset with loadPhase := .retiredList }.entries = [] ∧
      slotAsRead areaOfCorner 0 = .live ⟨31, 31⟩ ∧ slotAsRead areaOfCorner 1 = .live ⟨31, 31⟩ ∧
      slotAsRead areaOfCorner 2 = .void ∧ slotAsRead areaOfCorner 3 = .broken ∧
      slotAsRead areaOfCorner 127 = .empty := by decide +kernel

/-- A loaded part with stored cells, two of them of the quad of site (15, 15), which alone is calibrated. -/
def loaded : State :=
  { listing [unremedied ⟨31, 31⟩, unremedied ⟨30, 30⟩, unremedied ⟨29, 29⟩, unremedied ⟨0, 0⟩] State.reset with
    loadPhase := .complete
    calibration := ⟨Tbl.fill 1024 (Rgb.all 0), (Tbl.fill 256 (Rgb.all 0)).set 255 (Rgb.all 4095)⟩ }

theorem witness_EntryToRun :
    loaded.mode = .loading ∧ loaded.loadPhase = .complete ∧ (loaded.entries.map Entry.cell).Nodup ∧
      (loaded.calibration.sites.get (Site.index ⟨0, 0⟩)).get .r = 0 ∧
      (loaded.calibration.sites.get (Site.index ⟨15, 15⟩)).r ≠ 0 ∧
      (∀ e ∈ loaded.entries, e.remedy = none) ∧
      Cell.home ⟨31, 31⟩ = .foreign .se ⟨0, 0⟩ ∧ (loaded.retiredEntry ⟨31, 31⟩).isSome ∧
      Cell.home ⟨30, 30⟩ = .own ⟨15, 15⟩ ∧ Cell.home ⟨29, 29⟩ = .own ⟨15, 15⟩ ∧ Cell.home ⟨0, 0⟩ = .own ⟨0, 0⟩ := by
  decide +kernel

theorem witness_ConfigurationHoldsInRun : running.mode = .run ∧ restartsPart .supplyLow = false := by decide

/-- A state receiving a window of which so many codes have come. -/
def receivingWindow (n : Nat) (s : State) : State :=
  { s with intake := { s.intake with receiving := some (List.replicate n 5) } }

theorem witness_VideoCodesCollected :
    (run .resetAssert running).mode = .held ∧ running.mode ≠ .held ∧ running.intake.receiving = none ∧
      (receivingWindow 3466 running).intake.receiving = some (List.replicate 3466 5) ∧
      (List.replicate 3466 (5 : Code)).length < 3467 :=
  ⟨rfl, by decide, rfl, rfl, by rw [List.length_replicate]; decide⟩

theorem witness_FrameStartInRun_PlainFrameInLoading :
    (receivingWindow 3467 running).mode = .run ∧ (receivingWindow 3467 State.reset).mode = .loading ∧
      (receivingWindow 3467 running).intake.receiving = some (List.replicate 3467 5) ∧
      (List.replicate 3467 (5 : Code)).length = 3467 :=
  ⟨rfl, rfl, rfl, List.length_replicate⟩

theorem witness_DrivePortAndLossHold :
    { running with render := { running.render with sending := none } }.render.sending = none ∧
      running.render.sending = some (.dark, DriveFrame.zeros) ∧
      { running with intake := { running.intake with state := .receiving } }.intake.state = .receiving ∧
      { running with intake := { running.intake with state := .lost } }.intake.state = .lost ∧
      running.intake.state = .dark := ⟨rfl, rfl, rfl, rfl, rfl⟩

/-- A pass of which so many frames are counted, a plan issued, the clean mark as given. -/
def counting (n : Nat) (clean : Bool) : State :=
  { running with probe := { running.probe with
      n := n, plan := some (probePlan running.cfg running.probe), clean := clean } }

theorem witness_SenseReportCounted_PassEnd :
    ¬ (running.mode = .run ∧ (List.replicate 143 (0 : Sample)).length = 144) ∧
      (counting 61 true).probe.plan = some (probePlan running.cfg running.probe) ∧
      (probePlan running.cfg running.probe).number = 0 ∧ (counting 61 false).probe.clean = false ∧
      (counting 61 true).probe.clean = true ∧ (counting 61 true).probe.n ≠ 62 ∧ (counting 62 true).probe.n = 62 ∧
      (counting 62 true).mode = .run ∧ (List.replicate 144 (0 : Sample)).length = 144 := by decide +kernel

/-- A pass end at gain level 0 with every row at one lit sum, every SAT mark as given. -/
def ended (lit : Nat) (sat : Bool) : Probe :=
  { Probe.cleared with
    onCount := 32, offCount := 31, onSum := Tbl.fill 144 lit, sat := Tbl.fill 144 sat, gain := Tbl.fill 144 0 }

/-- The calibration of 512 everywhere: the dead bound lies at a lit sum of 4096, the weak bound at 12 288. -/
def results (lit : Nat) (sat : Bool) (i : Fin 144) : PairResult :=
  pairResult Configuration.defaults Calibration.default512 (ended lit sat) i

theorem witness_VerdictsCombineColours :
    [Colour.r, .g, .b].map (fun k => results 4095 false (pairOf (cellRow 31) k)) = [.fault, .fault, .fault] ∧
      [Colour.r, .g, .b].map (fun k => results 4096 true (pairOf (cellRow 31) k)) = [.none, .none, .none] ∧
      [Colour.r, .g, .b].map (fun k => results 4096 false (pairOf (cellRow 31) k)) = [.weak, .weak, .weak] ∧
      [Colour.r, .g, .b].map (fun k => results 12288 false (pairOf (cellRow 31) k)) = [.healthy, .healthy, .healthy] := by
  decide +kernel

/-- The same results in a spare row, whose site has no calibration value of 0; and a site with one such value. -/
theorem witness_PassEnd_sites :
    [Colour.r, .g, .b].map (fun k => results 4095 false (pairOf (spareRow 15) k)) = [.fault, .fault, .fault] ∧
      [Colour.r, .g, .b].map (fun k => results 4096 true (pairOf (spareRow 15) k)) = [.none, .none, .none] ∧
      [Colour.r, .g, .b].map (fun k => results 4096 false (pairOf (spareRow 15) k)) = [.weak, .weak, .weak] ∧
      [Colour.r, .g, .b].map (fun k => results 12288 false (pairOf (spareRow 15) k)) = [.healthy, .healthy, .healthy] ∧
      siteIsAbsent (Calibration.default512.sites.get 255) = false ∧ siteIsAbsent ⟨512, 0, 512⟩ = true := by
  decide +kernel

/-- An ABSENT site whose other two colours fault has the verdict NONE (R32; log entry 25). -/
theorem test_absent_site_gets_none :
    let cal : Calibration := ⟨Tbl.fill 1024 (Rgb.all 512), Tbl.fill 256 ⟨512, 0, 512⟩⟩
    (siteVerdictOf Configuration.defaults cal (ended 4095 false) 15).verdict = .none ∧
      (siteVerdictOf Configuration.defaults Calibration.default512 (ended 4095 false) 15).verdict = .fault := by
  decide +kernel

theorem witness_StallOverrideAndSupply :
    State.reset.probe.stallTimer = none ∧ running.probe.stallTimer = some 0 ∧
      running.handed.appendRequests = [] ∧
      { running with handed := { Handed.nothing with appendRequests := [15] } }.handed.appendRequests = [15] ∧
      running.mode = .run ∧ State.reset.mode ≠ .run := by decide

/-- Whether a state judges the inner cell's verdict in this condition with these runs. -/
def judges (j : Judgement) (c : Condition) (fault weak healthy : Nat) : Prop :=
  let s := judging (verdict j) c fault weak healthy running
  s.handed.cellVerdicts = [verdict j] ∧ (s.cell inner).condition = c ∧ (s.cell inner).faultRun = fault ∧
    (s.cell inner).weakRun = weak ∧ (s.cell inner).healthyRun = healthy

theorem judged (j : Judgement) (c : Condition) (f w h : Nat) : judges j c f w h := ⟨rfl, rfl, rfl, rfl, rfl⟩

/-- The gains just at G_max, and just above it in one colour. -/
theorem taken_as :
    (verdict (.weak ⟨8192, 8192, 8192⟩)).takenAsWeak running.cfg.gMax ⟨8192, 8192, 8192⟩ ∧
      (verdict (.weak ⟨4096, 4096, 8193⟩)).takenAsFault running.cfg.gMax ∧ (verdict .fault).takenAsFault running.cfg.gMax :=
  ⟨⟨rfl, by decide +kernel⟩, Or.inr ⟨_, rfl, by decide +kernel⟩, Or.inl rfl⟩

/-- K is 3 and K_dim 2: the runs just below their depths, in each condition. -/
theorem witness_VerdictBelowDepth :
    running.handed.cellVerdicts = [] ∧ judges .none .dim 0 0 0 ∧
      judges .healthy .retired 0 0 0 ∧ judges .fault .retired 0 0 0 ∧ judges (.weak ⟨8192, 8192, 8192⟩) .retired 0 0 0 ∧
      judges .healthy .good 0 1 0 ∧ (judges .fault .good 0 1 0 ∧ running.cfg.k ≠ 1) ∧
      (judges (.weak ⟨8192, 8192, 8192⟩) .good 0 0 0 ∧ 0 + 1 < running.cfg.kDim) ∧
      judges .healthy .suspect 2 0 0 ∧ (judges .fault .suspect 1 0 0 ∧ 1 + 1 < running.cfg.k) ∧
      (judges (.weak ⟨8192, 8192, 8192⟩) .suspect 2 0 0 ∧ running.cfg.kDim ≠ 1) ∧
      (judges .healthy .dim 2 0 0 ∧ 0 + 1 < running.cfg.kDim) ∧ (judges .fault .dim 1 0 1 ∧ 1 + 1 < running.cfg.k) ∧
      judges (.weak ⟨8192, 8192, 8192⟩) .dim 2 0 1 :=
  ⟨rfl, judged .., judged .., judged .., judged .., judged .., ⟨judged .., by decide⟩, ⟨judged .., by decide⟩, judged ..,
    ⟨judged .., by decide⟩, ⟨judged .., by decide⟩, ⟨judged .., by decide⟩, ⟨judged .., by decide⟩, judged ..⟩

/-- A part whose K and K_dim are 1. -/
def hasty (s : State) : State := { s with cfg := { s.cfg with k := 1, kDim := 1 } }

theorem witness_DimAdmittedAndRecovered :
    (judges (.weak ⟨8192, 8192, 8192⟩) .good 0 1 0 ∧ running.cfg.kDim ≤ 1 + 1) ∧
      (((hasty (judging (verdict (.weak ⟨8192, 8192, 8192⟩)) .suspect 2 0 0 running)).cell inner).condition = .suspect ∧
        (hasty running).cfg.kDim = 1) ∧
      (listing (fullOfRetired.take 127) running).entries.length < 128 ∧ 128 ≤ (listing fullOfRetired running).entries.length ∧
      (judges .healthy .dim 0 0 1 ∧ running.cfg.kDim ≤ 1 + 1) ∧
      (listing [dimmed inner] running).entryOf inner = some (dimmed inner) ∧ (dimmed inner).isRetired = false :=
  ⟨⟨judged .., by decide⟩, ⟨rfl, rfl⟩, by decide +kernel, by decide +kernel, ⟨judged .., by decide⟩,
    by decide +kernel, rfl⟩

theorem witness_ConfirmedFaultRetires_FullTable :
    (judges .fault .suspect 2 0 0 ∧ running.cfg.k ≤ 2 + 1) ∧
      (((hasty (judging (verdict .fault) .good 0 0 0 running)).cell inner).condition = .good ∧ (hasty running).cfg.k = 1) ∧
      (judges .fault .dim 2 0 0 ∧ running.cfg.k ≤ 2 + 1) ∧
      (listing [dimmed inner] running).entryOf inner = some (dimmed inner) ∧
      (∀ e ∈ fullOfRetired, e.isRetired = true) ∧ 128 ≤ fullOfRetired.length ∧ 128 ≤ fullWithDim.length ∧
      fullWithDim = fullOfRetired.take 127 ++ dimmed ⟨20, 20⟩ :: [] ∧
      (∀ e ∈ fullOfRetired.take 127, e.isRetired = true) ∧ (dimmed ⟨20, 20⟩).cell ≠ inner :=
  ⟨⟨judged .., by decide⟩, ⟨rfl, rfl⟩, ⟨judged .., by decide⟩, by decide +kernel, by decide +kernel, by decide +kernel,
    by decide +kernel, rfl, by decide +kernel, by decide⟩

theorem witness_RemedyChosen :
    (listing [unremedied inner] running).retiredEntry inner = some (unremedied inner) ∧
      (unremedied inner).isFilled = false ∧ (retiredWith inner (.fill .quadBusy)).isFilled = true ∧
      running.retiredEntry inner = none ∧ inner.home = .own ⟨7, 5⟩ ∧
      (running.site ⟨7, 5⟩).state = .free ∧ ((running.setSiteState ⟨7, 5⟩ .absent).site ⟨7, 5⟩).state = .absent ∧
      ((running.setSiteState ⟨7, 5⟩ .faulty).site ⟨7, 5⟩).state = .faulty ∧
      ((running.setSiteState ⟨7, 5⟩ (.own ⟨13, 9⟩)).site ⟨7, 5⟩).state = .own ⟨13, 9⟩ ∧
      Cell.home ⟨31, 12⟩ = .foreign .e ⟨0, 6⟩ ∧ (running.setNeighbour .e none).neighbour .e = none ∧
      running.neighbour .e = some ⟨⟨3, 2⟩, .unheard, none⟩ ∧ running.cfg.lending = true ∧
      { running with cfg := { running.cfg with lending := false } }.cfg.lending = false ∧
      amongNeighbours.neighbour .e = some ⟨⟨3, 2⟩, .present, some 0⟩ := by decide +kernel

/-- A part with one site verdict handed on for the site (7, 5) in a state with a fault run. -/
def sitejudging (v : Verdict) (st : SiteState) (n : Nat) : State :=
  { listing [retiredWith inner (.ownSpare ⟨7, 5⟩)] (running.setSite ⟨7, 5⟩ ⟨st, true, n, .never⟩) with
    handed := { Handed.nothing with siteVerdicts := [⟨⟨7, 5⟩, v⟩] } }

theorem witness_SiteVerdictTaken :
    running.handed.siteVerdicts = [] ∧
      (∀ v st n, (sitejudging v st n).handed.siteVerdicts = [⟨⟨7, 5⟩, v⟩]) ∧
      (∀ v st, st ∈ [SiteState.absent, .faulty, .free, .own inner, .lent .n ⟨0, 31⟩, .held .nw ⟨31, 31⟩ 500] →
        ((sitejudging v st 2).site ⟨7, 5⟩).state = st) ∧
      ((sitejudging .fault .free 1).site ⟨7, 5⟩).faultRun + 1 < running.cfg.k ∧
      running.cfg.k ≤ ((sitejudging .fault .free 2).site ⟨7, 5⟩).faultRun + 1 ∧
      (sitejudging .fault (.own inner) 2).remedyOf inner = some (.ownSpare ⟨7, 5⟩) :=
  ⟨rfl, fun _ _ _ => rfl, fun v st _ => rfl, by decide +kernel, by decide +kernel, by decide +kernel⟩

theorem witness_SweepEndReclaims :
    running.handed.sweepEnds = 0 ∧ { running with handed := { Handed.nothing with sweepEnds := 1 } }.handed.sweepEnds ≠ 0 ∧
      (listing [retiredWith ⟨31, 12⟩ (.fill .noAnswer)] running).remedyOf ⟨31, 12⟩ = some (.fill .noAnswer) ∧
      (listing [retiredWith ⟨31, 12⟩ (.fill .refusedInUse)] running).remedyOf ⟨31, 12⟩ = some (.fill .refusedInUse) ∧
      Cell.home ⟨31, 12⟩ = .foreign .e ⟨0, 6⟩ ∧ running.remedyOf inner = none ∧
      ((listing [retiredWith ⟨31, 12⟩ (.fill .noAnswer), retiredWith ⟨31, 13⟩ (.fill .refusedInUse)]
        running).entries.map Entry.cell).Nodup := by decide +kernel

/-- A part asking for the spare of cell (31, 12) at an attempt. -/
def asking (attempt : Nat) : State := listing [retiredWith ⟨31, 12⟩ (.asking .e ⟨0, 6⟩ attempt 25)] amongNeighbours

theorem witness_ClaimRetry :
    (asking 15).remedyOf ⟨31, 12⟩ = some (.asking .e ⟨0, 6⟩ (15 : Fin 16).val 25) ∧
      (asking 16).remedyOf ⟨31, 12⟩ = some (.asking .e ⟨0, 6⟩ 16 25) ∧ running.remedyOf ⟨31, 12⟩ = none := by
  decide +kernel

theorem takes_from (d : Dir) : Takes amongNeighbours (rxFrom d) d := by
  cases d <;> exact ⟨by decide +kernel, by decide +kernel, by decide +kernel, by decide +kernel⟩

theorem from_station : FromStation running rxStation := ⟨by decide, by decide, by decide⟩

/-- A part among neighbours, with sites LENT and HELD to the N and W neighbours, a cell that waits for one of them, cells on loan and asked for, an own site in use, and sites that can serve no cell. -/
def lending : State :=
  let sites : List (Site × SiteState) :=
    [(⟨0, 0⟩, .lent .n ⟨0, 31⟩), (⟨1, 0⟩, .lent .n ⟨2, 31⟩), (⟨0, 1⟩, .lent .w ⟨31, 2⟩), (⟨2, 0⟩, .held .n ⟨4, 31⟩ 7),
      (⟨7, 5⟩, .own inner), (⟨8, 8⟩, .absent), (⟨9, 9⟩, .faulty)]
  sites.foldl (fun s p => s.setSiteState p.1 p.2)
    (listing [retiredWith ⟨0, 0⟩ (.fill .quadBusy), retiredWith inner (.ownSpare ⟨7, 5⟩),
      retiredWith ⟨31, 12⟩ (.loan .e ⟨0, 6⟩), retiredWith ⟨31, 31⟩ (.asking .se ⟨0, 0⟩ 3 4),
      retiredWith ⟨31, 14⟩ (.fill .refusedInUse)] amongNeighbours)

theorem witness_HoldsEnd_several :
    let h := updatePresence (rxFrom .n).src lending
    Takes lending (rxFrom .n) .n ∧
      (h.sitesThat fun site state =>
        match state with
        | .lent b c => decide (b.toDir = .n ∧ (⟨site, c⟩ : LoanPair) ∉ [⟨⟨2, 0⟩, ⟨4, 31⟩⟩])
        | _ => false) = [⟨0, 0⟩, ⟨1, 0⟩] ∧
      h.waiter ⟨0, 0⟩ = some ⟨0, 0⟩ ∧ h.waiter ⟨1, 0⟩ = none :=
  ⟨⟨by decide, by decide, by decide, by decide⟩, by decide +kernel, by decide +kernel, by decide +kernel⟩

theorem test_hold_list_frees_and_offers :
    let t := run (.holdListReceived (rxFrom .n) [⟨⟨1, 0⟩, ⟨2, 31⟩⟩]) lending
    (t.site ⟨0, 0⟩).state = .own ⟨0, 0⟩ ∧ t.remedyOf ⟨0, 0⟩ = some (.ownSpare ⟨0, 0⟩) ∧
      (t.site ⟨1, 0⟩).state = .lent .n ⟨2, 31⟩ ∧ (t.site ⟨0, 1⟩).state = .lent .w ⟨31, 2⟩ := by decide +kernel

theorem witness_HoldsEnd :
    let lent := amongNeighbours.setSiteState ⟨0, 0⟩ (.lent .n ⟨0, 31⟩)
    ((running.setSiteState ⟨0, 0⟩ (.held .n ⟨0, 31⟩ 500)).site ⟨0, 0⟩).state = .held .n ⟨0, 31⟩ 500 ∧
      (running.site ⟨15, 15⟩).state = .free ∧ Takes amongNeighbours (rxFrom .n) .n ∧
      (List.replicate 16 (⟨⟨0, 0⟩, ⟨0, 31⟩⟩ : LoanPair)).length ≤ 16 ∧
      ((updatePresence (rxFrom .n).src lent).site ⟨0, 0⟩).state = .lent .n ⟨0, 31⟩ ∧
      (⟨⟨0, 0⟩, ⟨0, 31⟩⟩ : LoanPair) ∈ List.replicate 16 (⟨⟨0, 0⟩, ⟨0, 31⟩⟩ : LoanPair) ∧
      ((updatePresence (rxFrom .n).src lent).site ⟨15, 15⟩).state = .free :=
  ⟨rfl, rfl, takes_from .n, by decide, by decide +kernel, by decide, by decide +kernel⟩

theorem witness_NeighbourGoesSilent :
    running.neighbour .se = some ⟨⟨3, 3⟩, .unheard, none⟩ ∧
      amongNeighbours.neighbour .se = some ⟨⟨3, 3⟩, .present, some 0⟩ ∧
      (listing [retiredWith ⟨31, 31⟩ (.loan .se ⟨0, 0⟩)] amongNeighbours).remedyOf ⟨31, 31⟩ = some (.loan .se ⟨0, 0⟩) ∧
      (asking 1).remedyOf ⟨31, 12⟩ = some (.asking .e ⟨0, 6⟩ 1 25) ∧ running.remedyOf inner = none ∧
      (lending.sitesThat fun _ state => state.givenTo fun b => decide (b.toDir = .n)) = [⟨0, 0⟩, ⟨1, 0⟩, ⟨2, 0⟩] ∧
      lending.waiter ⟨0, 0⟩ = some ⟨0, 0⟩ ∧ lending.neighbour .n = some ⟨⟨2, 1⟩, .present, some 0⟩ ∧
      lending.remedyOf ⟨31, 12⟩ = some (.loan .e ⟨0, 6⟩) ∧
      lending.neighbour .e = some ⟨⟨3, 2⟩, .present, some 0⟩ := by decide +kernel

theorem test_silence_withdraws_a_loan :
    let t := run (.neighbourSilent .e) lending
    t.remedyOf ⟨31, 12⟩ = some (.fill .ownerSilent) ∧ t.remedyOf ⟨31, 31⟩ = some (.asking .se ⟨0, 0⟩ 3 4) ∧
      (t.seam.filledEdges.get .e).get 12 = true := by decide +kernel

theorem witness_RefreshSendsLists :
    State.reset.seam.refreshTimer = none ∧ running.seam.refreshTimer = some 0 := by decide

/-- A release waiting to be sent. -/
def waitingNotice : Notice := ⟨⟨2, 2⟩, ⟨3, 2⟩, .release ⟨0, 6⟩ ⟨31, 12⟩⟩

theorem witness_IdleGapAttempt :
    ¬ ((State.reset.port .a).state = .ready) ∧ (running.port .a).state = .ready ∧ (running.port .a).attempt = none ∧
      ((running.setPort .a { running.port .a with current := some waitingNotice }).port .a).current = some waitingNotice ∧
      ((answering 4 running).port .b).answers.length = 4 ∧
      ((enqueue .a waitingNotice running).port .a).notices = [waitingNotice] ∧
      (running.port .a).current = none ∧ (running.port .a).answers = [] ∧ (running.port .a).notices = [] := by
  decide +kernel

/-- A port with an attempt on the line. -/
def attempting (failures : Nat) (drop : Bool) : State :=
  running.setPort .a { running.port .a with
    current := some waitingNotice, attempt := some [true], failCount := failures, dropAfter := drop }

theorem witness_AttemptEnds :
    (running.port .a).attempt = none ∧ ((attempting 0 true).port .a).attempt = some [true] ∧
      ((attempting 0 true).port .a).dropAfter = true ∧ ((attempting 6 false).port .a).dropAfter = false ∧
      ((attempting 6 false).port .a).failCount + 1 < 8 ∧ 8 ≤ ((attempting 7 false).port .a).failCount + 1 ∧
      ((running.setPort .a { running.port .a with state := .quiet }).port .a).state = .quiet ∧
      (running.port .a).state ≠ .quiet := by decide +kernel

/-- A refresh list waiting behind one other notice. -/
def waitingList : Notice := ⟨⟨2, 2⟩, ⟨3, 2⟩, .holdList []⟩

theorem witness_QueueDiscipline :
    isAnswer ((ackReport .done).body 0) = true ∧ ((answering 3 running).port .b).answers.length < 4 ∧
      4 ≤ ((answering 4 running).port .b).answers.length ∧ isAnswer waitingList.body = false ∧
      [waitingNotice, waitingList] = [waitingNotice] ++ waitingList :: [] ∧ replaces waitingList waitingList = true ∧
      (∀ x ∈ [waitingNotice], replaces waitingList x = false) ∧ (List.replicate 11 waitingNotice).length < 12 ∧
      (∀ x ∈ List.replicate 12 waitingNotice, replaces waitingList x = false) ∧
      12 ≤ (List.replicate 12 waitingNotice).length ∧
      State.reset.neighbour .e = none ∧ running.neighbour .e = some ⟨⟨3, 2⟩, .unheard, none⟩ ∧
      Pos.portTo ⟨15, 2⟩ ⟨16, 2⟩ = .b ∧ Pos.portTo ⟨14, 15⟩ ⟨15, 15⟩ = .a := by decide +kernel

theorem witness_PresenceUpdated :
    (List.replicate 38 (0 : Byte)).length ≤ 38 ∧ (running.port (rxFrom .se).port).state ≠ .off ∧
      running.clashes (rxFrom .se).src = false ∧ running.directionOf rxStation.src = none ∧
      running.directionOf (rxFrom .se).src = some .se ∧ running.neighbour .se = some ⟨⟨3, 3⟩, .unheard, none⟩ ∧
      amongNeighbours.neighbour .se = some ⟨⟨3, 3⟩, .present, some 0⟩ := by decide +kernel

theorem witness_NoticeFilter :
    readNotice [true] = none ∧ noticeRx (.grantReceived (rxFrom .e) ⟨0, 6⟩ ⟨31, 12⟩) = some (rxFrom .e) ∧
      (Instr.grantReceived (rxFrom .e) ⟨0, 6⟩ ⟨31, 12⟩).wellFormed = true ∧ (State.reset.port .a).state = .off ∧
      (running.port .a).state ≠ .off ∧ running.clashes ⟨2, 2⟩ = true ∧ running.clashes ⟨3, 2⟩ = false ∧
      running.addressed ⟨2, 3⟩ = false ∧ running.directionOf rxStation.src = none ∧
      running.clashes rxStation.src = false ∧ (running.port .b).state ≠ .off ∧
      running.directionOf ⟨3, 1⟩ = none ∧ running.clashes ⟨3, 1⟩ = false := by decide +kernel

theorem test_notice_from_the_diagonal_without_a_seam :
    run (.claimReceived ⟨.a, ⟨3, 1⟩, ⟨2, 2⟩⟩ ⟨31, 31⟩ ⟨0, 0⟩ 0) amongNeighbours = amongNeighbours := by decide +kernel

/-- The corner site of the part in a state, proven or not, when the NW neighbour has been heard. -/
def corner (st : SiteState) (proven : Bool) : State :=
  updatePresence (rxFrom .nw).src (amongNeighbours.setSite ⟨0, 0⟩ ⟨st, proven, 0, .never⟩)

theorem witness_ClaimAnswered :
    Takes amongNeighbours (rxFrom .nw) .nw ∧ Cell.inQuadFrom ⟨30, 31⟩ .nw ⟨0, 0⟩ = false ∧
      Cell.inQuadFrom ⟨31, 31⟩ .nw ⟨0, 0⟩ = true ∧ amongNeighbours.cfg.lending = true ∧
      { amongNeighbours with cfg := { amongNeighbours.cfg with lending := false } }.cfg.lending = false ∧
      ([SiteState.absent, .faulty, .own ⟨0, 0⟩, .free, .held .nw ⟨31, 31⟩ 7, .lent .nw ⟨31, 31⟩, .held .n ⟨0, 31⟩ 7,
        .lent .n ⟨0, 31⟩].all fun st => [true, false].all fun proven =>
          decide ((corner st proven).site ⟨0, 0⟩ = ⟨st, proven, 0, .never⟩)) = true :=
  ⟨takes_from .nw, by decide +kernel, by decide +kernel, rfl, rfl, by decide +kernel⟩

theorem witness_GrantAndWaitTaken_RefuseAndRevokeTaken :
    let heard (s : State) := updatePresence (rxFrom .e).src s
    Takes amongNeighbours (rxFrom .e) .e ∧ OwnerDir.e.toDir = .e ∧
      (heard (asking 3)).remedyOf ⟨31, 12⟩ = some (.asking .e ⟨0, 6⟩ 3 25) ∧
      (heard (listing [retiredWith ⟨31, 12⟩ (.loan .e ⟨0, 6⟩)] amongNeighbours)).remedyOf ⟨31, 12⟩
        = some (.loan .e ⟨0, 6⟩) ∧
      ¬ Matches (heard amongNeighbours) .e ⟨0, 6⟩ ⟨31, 12⟩ := by
  refine ⟨takes_from .e, rfl, by decide +kernel, by decide +kernel, ?_⟩
  have none_ : (updatePresence (rxFrom .e).src amongNeighbours).remedyOf ⟨31, 12⟩ = none := by decide +kernel
  rintro ⟨owner, _, h | ⟨n, timer, h⟩⟩ <;> rw [none_] at h <;> cases h

theorem witness_ReleaseTaken :
    let heard := updatePresence (rxFrom .n).src
    Takes amongNeighbours (rxFrom .n) .n ∧ BorrowerDir.n.toDir = .n ∧
      ((heard (amongNeighbours.setSiteState ⟨0, 0⟩ (.lent .n ⟨0, 31⟩))).site ⟨0, 0⟩).state = .lent .n ⟨0, 31⟩ ∧
      ((heard amongNeighbours).site ⟨0, 0⟩).state = .free :=
  ⟨takes_from .n, rfl, by decide +kernel, by decide +kernel⟩

theorem witness_LoanListTaken :
    let heard := updatePresence (rxFrom .e).src
    Takes amongNeighbours (rxFrom .e) .e ∧ Takes amongNeighbours (rxFrom .n) .n ∧
      (∀ owner : OwnerDir, owner.toDir ≠ .n) ∧ OwnerDir.e.toDir = .e ∧
      (List.replicate 16 (⟨⟨0, 6⟩, ⟨31, 12⟩⟩ : LoanPair)).length ≤ 16 ∧
      (heard (listing [retiredWith ⟨31, 12⟩ (.loan .e ⟨0, 6⟩)] amongNeighbours)).remedyOf ⟨31, 12⟩
        = some (.loan .e ⟨0, 6⟩) ∧
      (⟨⟨0, 6⟩, ⟨31, 12⟩⟩ : LoanPair) ∈ List.replicate 16 (⟨⟨0, 6⟩, ⟨31, 12⟩⟩ : LoanPair) ∧
      Cell.home ⟨31, 12⟩ = .foreign .e ⟨0, 6⟩ ∧ (heard amongNeighbours).remedyOf ⟨31, 12⟩ = none ∧
      ((heard (listing [retiredWith ⟨31, 12⟩ (.loan .e ⟨0, 6⟩)] amongNeighbours)).entries.map Entry.cell).Nodup :=
  ⟨takes_from .e, takes_from .n, fun owner => by cases owner <;> decide, rfl, by decide, by decide +kernel, by decide,
    by decide, by decide +kernel, by decide +kernel⟩

theorem witness_FillListTaken :
    Takes amongNeighbours (rxFrom .w) .w ∧ Takes amongNeighbours (rxFrom .nw) .nw ∧
      (List.finRange 32).length ≤ 32 ∧ Edge.toDir .w = .w ∧ Edge.facing .w = .e ∧
      (∀ own : Edge, own.toDir = .nw → Edge.e ≠ own.facing) :=
  ⟨takes_from .w, takes_from .nw, by decide, rfl, rfl, fun own h => by cases own <;> cases h⟩

theorem witness_SectionRestart :
    (running.port .b).state ≠ .off ∧ running.clashes ⟨127, 5⟩ = false ∧ running.addressed Pos.everyone = true ∧
      Pos.isStation ⟨127, 0⟩ = true ∧ Pos.isStation ⟨126, 0⟩ = false ∧
      running.addressed running.position = true := by decide +kernel

theorem witness_SectionRestart_repairs :
    let h := updatePresence rxStation.src lending
    (h.sitesThat fun _ state => state.givenTo fun _ => true) = [⟨0, 0⟩, ⟨1, 0⟩, ⟨2, 0⟩, ⟨0, 1⟩] ∧
      h.waiter ⟨0, 0⟩ = some ⟨0, 0⟩ ∧ h.remedyOf ⟨31, 12⟩ = some (.loan .e ⟨0, 6⟩) ∧
      Cell.home ⟨31, 12⟩ = .foreign .e ⟨0, 6⟩ ∧ h.remedyOf inner = some (.ownSpare ⟨7, 5⟩) ∧
      (h.site ⟨7, 5⟩).state = .own inner ∧ (h.site ⟨8, 8⟩).state = .absent ∧ (h.site ⟨9, 9⟩).state = .faulty := by
  decide +kernel

theorem test_section_restart_of_repairs :
    let t := run (.sectionRestart rxStation) lending
    t.remedyOf ⟨0, 0⟩ = some (.ownSpare ⟨0, 0⟩) ∧ t.remedyOf ⟨31, 12⟩ = some (.fill .ownerSilent) ∧
      t.remedyOf ⟨31, 14⟩ = some (.fill .ownerSilent) ∧ (t.site ⟨1, 0⟩).state = .free ∧
      (t.seam.filledEdges.get .e).get 12 = true ∧ (t.port .a).notices.length + (t.port .b).notices.length = 10 := by
  decide +kernel

theorem witness_NoticeBitsReadBack :
    countInRange (.fillList .w (List.finRange 32)) = true ∧
      countInRange (.holdList (List.replicate 16 ⟨⟨15, 15⟩, ⟨31, 31⟩⟩)) = true ∧
      countInRange (.serviceRequest 255 255 (List.replicate 38 255)) = true := by decide +kernel

theorem witness_QueriesAnswered :
    FromStation running rxStation ∧ FromStation (answering 2 running) rxStation ∧
      ((updatePresence rxStation.src (answering 2 running)).port .b).answers.length ≤ 2 ∧
      ((updatePresence rxStation.src (answering 3 running)).port .b).answers.length ≤ 3 ∧
      (31 : Byte).toNat = (⟨31, 31⟩ : Cell).x.val ∧ 32 ≤ (32 : Byte).toNat ∧
      (15 : Byte).toNat = (⟨15, 15⟩ : Site).i.val ∧ 16 ≤ (16 : Byte).toNat ∧
      running.entryOf inner = none ∧
      fullWithDim = fullOfRetired.take 127 ++ dimmed ⟨20, 20⟩ :: [] ∧
      (∀ x ∈ fullOfRetired.take 127, x.cell ≠ ⟨20, 20⟩) :=
  ⟨from_station, ⟨by decide +kernel, by decide +kernel, by decide +kernel⟩, by decide +kernel, by decide +kernel,
    by decide, by decide, by decide, by decide, by decide +kernel, rfl, by decide +kernel⟩

theorem witness_MarkCarriedOut :
    let heard := updatePresence rxStation.src
    (heard running).lastTag .b ≠ some 7 ∧ ((heard (answering 3 running)).port .b).answers.length ≤ 3 ∧
      32 ≤ (32 : Byte).toNat ∧ (14 : Byte).toNat = inner.x.val ∧ (9 : Byte).toNat = inner.y.val ∧
      ((heard (listing [retiredWith inner (.ownSpare ⟨7, 5⟩)] running)).cell inner).condition = .retired ∧
      ((heard running).cell inner).condition = .good ∧ (heard running).entries.length < 128 ∧
      ((heard (listing fullOfRetired running)).cell inner).condition = .good ∧
      128 ≤ (heard (listing fullOfRetired running)).entries.length ∧
      ((heard (listing fullOfRetired running)).entries.all Entry.isRetired) = true ∧
      ((heard (listing fullWithDim running)).cell inner).condition = .good ∧
      (heard (listing fullWithDim running)).entries = fullOfRetired.take 127 ++ dimmed ⟨20, 20⟩ :: [] ∧
      ((heard (listing [dimmed inner] running)).cell inner).condition = .dim ∧
      (heard (listing [dimmed inner] running)).entryOf inner = some (dimmed inner) := by decide +kernel

theorem witness_RestoreCarriedOut :
    let heard (e : Entry) := updatePresence rxStation.src (listing [e] running)
    FromStation running rxStation ∧ ((heard (dimmed inner)).cell inner).condition = .dim ∧
      (heard (retiredWith inner (.fill .siteFaulty))).remedyOf inner = some (.fill .siteFaulty) ∧
      (heard (retiredWith ⟨31, 12⟩ (.loan .e ⟨0, 6⟩))).remedyOf ⟨31, 12⟩ = some (.loan .e ⟨0, 6⟩) ∧
      (heard (retiredWith ⟨31, 12⟩ (.asking .e ⟨0, 6⟩ 16 25))).remedyOf ⟨31, 12⟩ = some (.asking .e ⟨0, 6⟩ 16 25) ∧
      ((heard (retiredWith ⟨31, 12⟩ (.asking .e ⟨0, 6⟩ 16 25))).cell ⟨31, 12⟩).condition = .retired ∧
      (heard (retiredWith inner (.ownSpare ⟨7, 5⟩))).remedyOf inner = some (.ownSpare ⟨7, 5⟩) ∧
      ((updatePresence rxStation.src (listing [retiredWith inner (.ownSpare ⟨7, 5⟩)]
        (running.setSiteState ⟨7, 5⟩ (.own inner)))).site ⟨7, 5⟩).state = .own inner :=
  ⟨from_station, by decide +kernel, by decide +kernel, by decide +kernel, by decide +kernel, by decide +kernel,
    by decide +kernel, by decide +kernel⟩

/-- A part whose store is in a state with an operation in progress. -/
def storing (st : StoreState) (job : Option StoreJob) (waits : Bool) : State :=
  { running with store := { running.store with state := st, job := job, jobTimer := some 50, eraseWaits := waits } }

theorem witness_ActingRequestsCarriedOut :
    FromStation running rxStation ∧
      ([StoreState.missing, .idle, .writing, .erasing].all fun st =>
        decide ((updatePresence rxStation.src (storing st none false)).store.state = st)) = true ∧
      (List.replicate 38 (0 : Byte)).length ≤ 38 ∧ readCommand 9 (List.replicate 38 0) = none ∧
      readCommand 6 [0] = none := by
  exact ⟨from_station, by decide +kernel, by decide +kernel, by decide +kernel, by decide +kernel⟩

theorem witness_RequestsTurnedAway :
    let repeated := { answering 3 running with lastTags := ⟨none, some 7⟩ }
    (running.port .b).state ≠ .off ∧ running.clashes rxStation.src = false ∧ rxStation.src.isStation = true ∧
      rxStation.dst = running.position ∧
      ((updatePresence rxStation.src repeated).port .b).answers.length ≤ 3 ∧
      (updatePresence rxStation.src repeated).lastTag .b = some 7 ∧
      4 ≤ ((updatePresence rxStation.src (answering 4 running)).port .b).answers.length ∧
      3 ≤ ((updatePresence rxStation.src (answering 3 running)).port .b).answers.length ∧
      running.addressed Pos.everyone = true ∧ Pos.everyone ≠ running.position ∧
      (rxFrom .e).src.isStation = false ∧ running.clashes (rxFrom .e).src = false := by decide +kernel

/-- A part with operations waiting in the store. -/
def queueing (ops : List PendingWrite) (slots : Tbl 128 Slot) : State :=
  { running with store := { running.store with pendingWrites := ops, slots := slots } }

theorem witness_PendingWriteList :
    (storing .missing none false).store.state = .missing ∧ running.store.state ≠ .missing ∧
      (queueing (List.replicate 7 (.void 0)) (Tbl.fill 128 .empty)).store.pendingWrites.length < 8 ∧
      8 ≤ (queueing (List.replicate 8 (.void 0)) (Tbl.fill 128 .empty)).store.pendingWrites.length ∧
      [PendingWrite.append inner .marked, .append inner .detected, .void 3]
        = [.append inner .marked] ++ .append inner .detected :: [.void 3] ∧
      (∀ op ∈ [PendingWrite.void 3], op.appends inner = false) ∧
      ((List.finRange 128).all fun slot => decide (running.store.slots.get slot ≠ .live inner)) = true ∧
      ((Tbl.fill 128 Slot.empty).set 127 (.live inner)).get 127 = .live inner := by decide +kernel

/-- A part with a rewrite list: its first cell has no entry, its second stands in a LIVE slot, and more may follow. -/
def rewriting (rest : List Cell) (ops : List PendingWrite) : State :=
  let s := listing [retiredWith ⟨20, 20⟩ (.fill .quadBusy), retiredWith inner (.ownSpare ⟨7, 5⟩)] running
  { s with store := { s.store with
    rewrite := ⟨3, 3⟩ :: ⟨20, 20⟩ :: rest
    pendingWrites := ops
    slots := ((Tbl.fill 128 .void).set 5 (.live ⟨20, 20⟩)).set 127 .empty } }

theorem witness_WriteBegins_rewriting :
    (rewriting [inner] []).mode = .run ∧ (rewriting [inner] []).store.state = .idle ∧
      (rewriting [inner] []).store.rewrite = [⟨3, 3⟩, ⟨20, 20⟩] ++ inner :: [] ∧
      (rewriting [inner] []).retiredEntry ⟨3, 3⟩ = none ∧
      (rewriting [inner] []).store.slots.get 5 = .live ⟨20, 20⟩ ∧
      (rewriting [inner] []).retiredEntry inner = some (retiredWith inner (.ownSpare ⟨7, 5⟩)) ∧
      ((List.finRange 128).all fun slot => decide ((rewriting [inner] []).store.slots.get slot ≠ .live inner)) = true ∧
      (rewriting [] [.void 5]).store.pendingWrites = [.void 5] ∧
      (rewriting [] [.append inner .marked]).store.pendingWrites = [.append inner .marked] ∧
      (rewriting [] [.void 5]).store.laterOperation ⟨20, 20⟩ = true := by decide +kernel

theorem test_rewrite_list_passes_over :
    let t := run .storeWriteBegin (rewriting [inner] [.void 5])
    t.store.rewrite = [] ∧ t.store.pendingWrites = [.void 5] ∧ t.store.job = some (.append inner .detected 127) ∧
      (run .storeWriteBegin (rewriting [] [.void 5])).store.job = some (.void 5) := by decide +kernel

theorem witness_WriteBegins :
    ¬ (State.reset.mode = .run ∧ State.reset.store.state = .idle) ∧ running.mode = .run ∧ running.store.state = .idle ∧
      running.store.rewrite = [] ∧ running.store.pendingWrites = [] ∧
      (queueing [.void 127] (Tbl.fill 128 .void)).store.pendingWrites = [.void 127] ∧
      (queueing [.append inner .marked] (Tbl.fill 128 .void)).store.pendingWrites = [.append inner .marked] ∧
      appending.retiredEntry inner = some (retiredWith inner (.ownSpare ⟨7, 5⟩)) ∧
      ((Tbl.fill 128 Slot.void).set 127 Slot.empty).get 127 = .empty ∧
      (∀ lower : Fin 128, (Tbl.fill 128 Slot.void).get lower ≠ .empty) ∧
      (queueing [] ((Tbl.fill 128 .void).set 5 (.live inner))).store.slots.get 5 = .live inner ∧
      (queueing [] ((Tbl.fill 128 .void).set 5 (.live inner))).store.laterOperation inner = false ∧
      (queueing [.void 5] ((Tbl.fill 128 .void).set 5 (.live inner))).store.laterOperation inner = true := by decide +kernel

theorem witness_StoreOperationEnds :
    running.store.state ≠ .writing ∧ running.store.state ≠ .erasing ∧
      (storing .writing (some (.append inner .marked 127)) false).store.state = .writing ∧
      (storing .writing (some (.append inner .marked 127)) false).store.job = some (.append inner .marked 127) ∧
      (storing .writing (some (.void 127)) true).store.eraseWaits = true ∧
      (storing .writing (some (.append inner .marked 127)) true).store.eraseWaits = true ∧
      (storing .writing (some (.append inner .marked 127)) true).store.job = some (.append inner .marked 127) ∧
      (storing .erasing (some .erase) false).store.state = .erasing ∧
      (Tbl.fill 4 0xFF#8).data ≠ slotBytes inner .marked ∧ (slotBytes inner .marked).length = 4 ∧
      (storing .writing (some (.append inner .marked 127)) false).store.laterOperation inner = false ∧
      (queueing [.append inner .marked] (Tbl.fill 128 .empty)).store.laterOperation inner = true ∧
      (Tbl.fill 4 0x00#8).get 0 = 0x00#8 ∧ (Tbl.fill 4 0xFF#8).get 0 ≠ 0x00#8 := by decide +kernel

theorem test_erase_begins_after_a_failed_append :
    let t := run .storeWriteTimeout (storing .writing (some (.append inner .marked 127)) true)
    t.store.state = .erasing ∧ t.store.job = some .erase ∧ t.store.eraseWaits = false ∧
      t.store.slots.get 127 = .void ∧ t.flags.storeFault = true := by decide +kernel

end Sys2Proof.Tests
end

section
/-! Where a notice handed on goes, and the place it takes in a queue (R9, R154, R159 to R161). -/

namespace Sys2Proof.Machine

/-! ## The kinds of a notice, and the list it replaces (R159, R160) -/

theorem isAnswer_iff (body : NoticeBody) : isAnswer body = true ↔
    (∃ site c, body = .grant site c) ∨ (∃ site c reason, body = .refuse site c reason) ∨
      (∃ site c, body = .wait site c) ∨ ∃ tag kind bytes, body = .report tag kind bytes := by
  cases body <;> simp [isAnswer]

theorem replaces_iff (new old : Notice) : replaces new old = true ↔
    (∃ edge positions positions', new.body = .fillList edge positions ∧ old.body = .fillList edge positions') ∨
      (∃ pairs pairs', new.body = .holdList pairs ∧ old.body = .holdList pairs' ∧ new.dst = old.dst) ∨
      ∃ pairs pairs', new.body = .loanList pairs ∧ old.body = .loanList pairs' ∧ new.dst = old.dst := by
  unfold replaces
  split
  · rename_i hn ho
    simp [hn, ho, eq_comm]
  · rename_i hn ho
    simp [hn, ho]
  · rename_i hn ho
    simp [hn, ho]
  · rename_i noFill noHold noLoan
    simp only [Bool.false_eq_true, false_iff]
    rintro (⟨edge, ps, ps', hn, ho⟩ | ⟨pairs, pairs', hn, ho, _⟩ | ⟨pairs, pairs', hn, ho, _⟩)
    · exact noFill _ _ _ _ hn ho
    · exact noHold _ _ hn ho
    · exact noLoan _ _ hn ho

/-- A notice that replaces nothing that waits leaves the search empty-handed. -/
theorem replaceWaiting_eq_none {n : Notice} {queue : List Notice} (h : ∀ x ∈ queue, replaces n x = false) :
    replaceWaiting n queue = none := by
  induction queue with
  | nil => rfl
  | cons x queue ih =>
    obtain ⟨hx, rest⟩ := List.forall_mem_cons.mp h
    simp [replaceWaiting, hx, ih rest]

/-- The first waiting list that a notice replaces gives it its place. -/
theorem replaceWaiting_append {n old : Notice} {ahead : List Notice} (behind : List Notice)
    (h : ∀ x ∈ ahead, replaces n x = false) (hold : replaces n old = true) :
    replaceWaiting n (ahead ++ old :: behind) = some (ahead ++ n :: behind) := by
  induction ahead with
  | nil => simp [replaceWaiting, hold]
  | cons x ahead ih =>
    obtain ⟨hx, rest⟩ := List.forall_mem_cons.mp h
    simp [replaceWaiting, hx, ih rest]

/-! ## A notice placed in a queue (R159 to R161) -/

section Enqueue

variable {p : PortId} {n : Notice} {s : State}

theorem enqueue_answer_full (hn : isAnswer n.body = true) (full : 4 ≤ (s.port p).answers.length) :
    enqueue p n s = s.raise .queueFull := by
  unfold enqueue enqueueAnswer
  rw [if_pos hn]
  exact if_neg (Nat.not_lt.mpr full)

theorem enqueue_replacing (hn : isAnswer n.body = false) {queue : List Notice}
    (h : replaceWaiting n (s.port p).notices = some queue) :
    enqueue p n s = s.setPort p { s.port p with notices := queue } := by
  simp [enqueue, enqueueNotice, hn, h]

theorem enqueue_notice (hn : isAnswer n.body = false) (h : replaceWaiting n (s.port p).notices = none)
    (room : (s.port p).notices.length < 12) :
    enqueue p n s = s.setPort p { s.port p with notices := (s.port p).notices ++ [n] } := by
  simp [enqueue, enqueueNotice, hn, h, room]

theorem enqueue_notice_full (hn : isAnswer n.body = false) (h : replaceWaiting n (s.port p).notices = none)
    (full : 12 ≤ (s.port p).notices.length) : enqueue p n s = s.raise .queueFull := by
  simp [enqueue, enqueueNotice, hn, h, Nat.not_lt.mpr full]

end Enqueue

/-! ## A notice handed on for a direction (R9, R154) -/

theorem portTo_eq (own dst : Pos) : own.portTo dst =
    if own.col.val / 16 = dst.col.val / 16 ∧ own.row.val / 16 = dst.row.val / 16 then .a else .b := by
  simp [Pos.portTo, Pos.zoneA]

theorem sendTo_none {s : State} {d : Dir} (h : s.neighbour d = none) (body : NoticeBody) : sendTo d body s = s := by
  simp [sendTo, h]

theorem sendTo_some {s : State} {d : Dir} {nb : Neighbour} (h : s.neighbour d = some nb) (body : NoticeBody) :
    sendTo d body s = enqueue (s.position.portTo nb.position) ⟨s.position, nb.position, body⟩ s := by
  simp [sendTo, h]

/-- Settles O36: each clause is one of the rules above. -/
theorem queueDiscipline : Obligations.QueueDiscipline := by
  refine ⟨isAnswer_iff, replaces_iff, ?_, ?_⟩
  · intro d body s
    refine ⟨fun h => sendTo_none h body, fun nb h => ?_⟩
    rw [sendTo_some h, portTo_eq]
    exact ⟨fun share => by rw [if_pos share], fun share => by rw [if_neg share]⟩
  · intro p n s
    refine ⟨fun hn => ⟨fun room => enqueue_answer hn p s room, fun full => enqueue_answer_full hn full⟩,
      fun hn => ⟨?_, fun keep => ?_⟩⟩
    · intro ahead old behind hq hold keep
      exact enqueue_replacing hn (by rw [hq, replaceWaiting_append behind keep hold])
    · have none := replaceWaiting_eq_none keep
      exact ⟨fun room => enqueue_notice hn none room, fun full => enqueue_notice_full hn none full⟩

end Sys2Proof.Machine
end

section
/-! The filter that every notice passes, and the presence update it makes (R10, R139, R142, R153, R163, R164). -/

namespace Sys2Proof.Machine

section Filter

variable {s : State} {rx : Rx}

/-! ## The filter -/

theorem receive_off (h : (s.port rx.port).state = .off) (act : State → State) : receive rx act s = s := by
  unfold receive
  rw [if_pos h]

theorem receive_clash (h : (s.port rx.port).state ≠ .off) (clash : s.clashes rx.src = true) (act : State → State) :
    receive rx act s = s.raise .positionClash := by
  unfold receive
  rw [if_neg h, if_pos clash]

/-- A notice that is read and does not clash updates the presence of its source, and is acted on when it is addressed to the tile. -/
theorem receive_heard (h : (s.port rx.port).state ≠ .off) (other : s.clashes rx.src = false) (act : State → State) :
    receive rx act s =
      if s.addressed rx.dst then act (updatePresence rx.src s) else updatePresence rx.src s := by
  unfold receive
  rw [if_neg h, if_neg (by simp [other])]
  simp only [updatePresence_addressed]

theorem updatePresence_no_direction {src : Pos} (h : s.directionOf src = none) : updatePresence src s = s := by
  unfold updatePresence
  rw [h]

/-- A notice that only the Seam Agent's neighbours send is discarded from any other source. -/
theorem receiveFromNeighbour_no_direction (h : (s.port rx.port).state ≠ .off) (other : s.clashes rx.src = false)
    (none : s.directionOf rx.src = none) (act : Dir → State → State) : receiveFromNeighbour rx act s = s := by
  unfold receiveFromNeighbour
  rw [receive_heard h other, updatePresence_no_direction none, none]
  exact ite_self s

theorem receiveRequest_short (tag code : Byte) {arguments : List Byte} (h : arguments.length ≤ 38) :
    receiveRequest rx tag code arguments s = receive rx (serviceRequest rx tag code arguments) s := by
  unfold receiveRequest
  rw [if_pos (by simpa [countInRange] using h)]

/-! ## Every notice goes through the filter -/

/-- What a well-formed notice comes to: the filter, with an action of its kind. -/
theorem exec_notice {c : Instr} (h : noticeRx c = some rx) (wf : c.wellFormed = true) :
    ∃ act, exec c s = .next (receive rx act s) := by
  have request (rx' : Rx) (tag code : Byte) (arguments : List Byte) : arguments.length ≤ 38 → some rx' = some rx →
      ∃ act, Host.Outcome.next (receiveRequest rx' tag code arguments s) =
        (.next (receive rx act s) : Host.Outcome State Fault Refusal) := by
    intro short same
    obtain rfl := Option.some.inj same
    exact ⟨_, congrArg _ (receiveRequest_short tag code short)⟩
  cases c with
  | querySummary | queryCell | querySite | queryEntry | mark | restore | rescan | clearFlags | clearRetired =>
    exact request _ _ _ _ (by simp) h
  | serviceRequestUnknown rx' tag command arguments =>
    obtain ⟨short, _⟩ := Bool.and_eq_true_iff.mp wf
    exact request _ _ _ _ (by simpa [countInRange] using short) h
  | holdListReceived | loanListReceived | fillListReceived | reportReceived =>
    obtain rfl := Option.some.inj h
    exact ⟨_, congrArg _ (if_pos wf)⟩
  | claimReceived | grantReceived | waitReceived | refuseReceived | revokeReceived | releaseReceived
  | sectionRestart =>
    obtain rfl := Option.some.inj h
    exact ⟨_, rfl⟩
  | _ => cases h

/-- The nine kinds that the Seam Agent takes are taken from a source with a direction alone. -/
theorem exec_seamNotice {c : Instr} (wf : c.wellFormed = true)
    (kind : (∃ cell site attempt, c = .claimReceived rx cell site attempt) ∨
      (∃ site cell, c = .grantReceived rx site cell ∨ c = .waitReceived rx site cell ∨
        c = .revokeReceived rx site cell ∨ c = .releaseReceived rx site cell) ∨
      (∃ site cell reason, c = .refuseReceived rx site cell reason) ∨
      (∃ pairs, c = .holdListReceived rx pairs ∨ c = .loanListReceived rx pairs) ∨
      (∃ edge positions, c = .fillListReceived rx edge positions)) :
    ∃ act, exec c s = .next (receiveFromNeighbour rx act s) := by
  rcases kind with ⟨_, _, _, rfl⟩ | ⟨_, _, rfl | rfl | rfl | rfl⟩ | ⟨_, _, _, rfl⟩ | ⟨_, rfl | rfl⟩ | ⟨_, _, rfl⟩
  case inr.inr.inr.inl.inl | inr.inr.inr.inl.inr | inr.inr.inr.inr => exact ⟨_, congrArg _ (if_pos wf)⟩
  all_goals exact ⟨_, rfl⟩

end Filter

/-- Settles O38: the filter, case by case, behind every notice command. -/
theorem noticeFilter : Obligations.NoticeFilter := by
  constructor
  · intro p bits s malformed
    show execNoticeMalformed p bits s = .next s
    unfold execNoticeMalformed
    rw [malformed]
  · intro c rx s h wf
    obtain ⟨act, e⟩ := exec_notice (s := s) h wf
    refine ⟨fun off => ?_, fun on clash => ?_, fun on other elsewhere => ?_, fun on other none kind => ?_⟩
    · rw [e, receive_off off]
    · rw [e, receive_clash on clash]
      rfl
    · rw [e, receive_heard on other, elsewhere]
      rfl
    · obtain ⟨act, e⟩ := exec_seamNotice (s := s) wf kind
      rw [e, receiveFromNeighbour_no_direction on other none]

/-! ## The presence update (R139, R142) -/

/-- The lists of a direction are those of the tables before any was sent, since sending changes no table. -/
theorem sendLists_eq (d : Dir) (s : State) : sendLists d s =
    let fill (edge : Edge) (t : State) : State := sendTo edge.toDir (.fillList edge (s.filledPositions edge)) t
    let loans (b : BorrowerDir) (t : State) : State := sendTo b.toDir (.loanList (s.loansTo b)) t
    let holds (owner : OwnerDir) (t : State) : State := sendTo owner.toDir (.holdList (s.loansFrom owner)) t
    match d with
    | .n => loans .n (fill .n s)
    | .w => loans .w (fill .w s)
    | .nw => loans .nw s
    | .e => holds .e (fill .e s)
    | .s => holds .s (fill .s s)
    | .se => holds .se s := by
  have lent (edge : Edge) (b : BorrowerDir) : (sendFillList edge s).loansTo b = s.loansTo b :=
    (sendTo_onlySends _ _ s).loansTo b
  have held (edge : Edge) (o : OwnerDir) : (sendFillList edge s).loansFrom o = s.loansFrom o :=
    (sendTo_onlySends _ _ s).loansFrom o
  cases d <;> simp only [sendLists, sendLoanList, sendHoldList, lent, held] <;> rfl

/-- The test of a re-claim by FILL(OWNER_SILENT), as an equation of remedies (R129). -/
theorem isFillWith_ownerSilent (r : Remedy) : r.isFillWith [.ownerSilent] = decide (r = .fill .ownerSilent) := by
  cases r <;> simp [Remedy.isFillWith]

theorem updatePresence_direction {s : State} {src : Pos} {d : Dir} {nb : Neighbour} (hd : s.directionOf src = some d)
    (hn : s.neighbour d = some nb) : updatePresence src s =
      let u := s.setNeighbour d (some ⟨nb.position, .present, some 0⟩)
      if nb.presence = .present then u else neighbourReturned d u := by
  unfold updatePresence hearNeighbour
  simp only [hd, hn]

/-- Settles O37: a REPORT is its presence update, and that is the neighbour's return by its lists and re-claims. -/
theorem presenceUpdated : Obligations.PresenceUpdated := by
  intro rx tag kind body s short on other
  refine ⟨?_, updatePresence_no_direction, ?_⟩
  · show execReportReceived rx tag kind body s = _
    unfold execReportReceived
    rw [if_pos (by simpa [countInRange] using short), receive_heard on other]
    exact congrArg _ (ite_self _)
  · intro d nb hd hn
    refine ⟨fun here => ?_, fun away => ?_⟩
    · rw [updatePresence_direction hd hn]
      exact if_pos here
    · rw [updatePresence_direction hd hn]
      dsimp only
      rw [if_neg away, neighbourReturned, sendLists_eq]
      simp only [isFillWith_ownerSilent]
      rfl

end Sys2Proof.Machine
end

section
/-! The 63rd counted frame: what a counted frame leaves of the engine, what the pass end hands on, and the combination of three results (R22, R24, R28, R32, R33, R35). -/

namespace Sys2Proof.Machine

/-! ## A counted frame (R22) -/

section Counted

variable (chipOn : Bool) (samples : List Sample) (pe : Probe)

@[simp] theorem counted_n : (pe.counted chipOn samples).n = pe.n + 1 := by cases chipOn <;> rfl
@[simp] theorem counted_p : (pe.counted chipOn samples).p = pe.p := by cases chipOn <;> rfl
@[simp] theorem counted_q : (pe.counted chipOn samples).q = pe.q := by cases chipOn <;> rfl
@[simp] theorem counted_overrides : (pe.counted chipOn samples).overrides = pe.overrides := by cases chipOn <;> rfl
@[simp] theorem counted_sweepCount : (pe.counted chipOn samples).sweepCount = pe.sweepCount := by cases chipOn <;> rfl

end Counted

/-- A report that is taken, with the clean mark set, as the 63rd of its pass (R20, R22, R24). -/
theorem senseReport_last {s : State} {plan : ProbePlan} {samples : List Sample} (run : s.mode = .run)
    (complete : samples.length = 144) (held : s.probe.plan = some plan) (clean : s.probe.clean = true)
    (last : s.probe.n = 62) :
    senseReport plan.number samples s = endPass { s with probe := s.probe.counted plan.chipOn samples } := by
  simp [senseReport, takeReport, run, complete, held, clean, last]

/-! ## The pass advance (R27 to R29, R33, R36) -/

/-- The last diagonal, after which the sweep begins again (R33). -/
theorem val_eq_last (p : Fin 32) : (p.val = 31) = (p = 31) := propext (Fin.ext_iff (b := 31)).symm

theorem advanced_eq (cfg : Configuration) (pe : Probe) : pe.advanced cfg = { pe with
    chip := 1, n := 0, onCount := 0, offCount := 0
    onSum := Tbl.fill 144 0, offSum := Tbl.fill 144 0, sat := Tbl.fill 144 false
    stallTimer := some 0, leak := (pe.advanced cfg).leak, gain := (pe.advanced cfg).gain
    p := pe.p + 1
    q := pe.overrides.headD (pe.q + 1)
    overrides := pe.overrides.tail
    sweepCount := if pe.p = 31 then (pe.sweepCount + 1) % 16777216 else pe.sweepCount } := by
  simp only [Probe.advanced, val_eq_last]
  rfl

theorem advanced_leak (cfg : Configuration) (pe : Probe) (i : Fin 144) :
    (pe.advanced cfg).leak.get i = decide (31 * cfg.lLeak * 2 ^ pe.gain.get i < pe.offSum.get i) :=
  Tbl.get_ofFn _ i

theorem advanced_gain (cfg : Configuration) (pe : Probe) (i : Fin 144) :
    (pe.advanced cfg).gain.get i =
      if pe.sat.get i then pe.gain.get i - 1
      else if pe.onSum.get i < 32768 ∧ pe.gain.get i < 3 then pe.gain.get i + 1
      else pe.gain.get i :=
  Tbl.get_ofFn _ i

/-! ## What the pass end hands on (R28, R35, R36) -/

@[simp] theorem endPass_probe (s : State) : (endPass s).probe = s.probe.advanced s.cfg := by
  unfold endPass
  dsimp only
  split <;> rfl

theorem endPass_eq (s : State) : endPass s = { s with
    probe := s.probe.advanced s.cfg
    handed := { s.handed with
      cellVerdicts := s.handed.cellVerdicts ++ (List.finRange 32).map (cellVerdictOf s.cfg s.calibration s.probe)
      siteVerdicts := s.handed.siteVerdicts ++ (List.finRange 16).map (siteVerdictOf s.cfg s.calibration s.probe)
      sweepEnds := if s.probe.p = 31 then s.handed.sweepEnds + 1 else s.handed.sweepEnds }
    flags := { s.flags with senseCeiling := s.flags.senseCeiling || hitsCeiling s.probe } } := by
  unfold endPass Handed.withPass
  simp only [val_eq_last]
  cases hitsCeiling s.probe with
  | true => simp only [Bool.or_true]; rfl
  | false => simp only [Bool.or_false]; rfl

/-! ## The combination of three results (R32) -/

theorem exists_get_eq {α : Type} (v : Rgb α) (a : α) : (∃ k, v.get k = a) ↔ v.r = a ∨ v.g = a ∨ v.b = a :=
  ⟨fun ⟨k, h⟩ => by cases k; exacts [Or.inl h, Or.inr (Or.inl h), Or.inr (Or.inr h)],
    by rintro (h | h | h); exacts [⟨.r, h⟩, ⟨.g, h⟩, ⟨.b, h⟩]⟩

section Combine

variable {r : Rgb PairResult}

theorem combine_fault (fault : ∃ k, r.get k = .fault) : combine r = .fault := by
  simp only [exists_get_eq] at fault
  simp only [combine, if_pos fault]

theorem combine_none (fault : ¬ ∃ k, r.get k = .fault) (none : ∃ k, r.get k = .none) : combine r = .none := by
  simp only [exists_get_eq] at fault none
  simp only [combine, if_neg fault, if_pos none]

theorem combine_weak (lit : ∀ k, r.get k = .weak ∨ r.get k = .healthy) (weak : ∃ k, r.get k = .weak) :
    combine r = .weak := by
  have no_other {x : PairResult} (hw : x ≠ .weak) (hh : x ≠ .healthy) : ¬ ∃ k, r.get k = x := by
    rintro ⟨k, rfl⟩
    exact (lit k).elim hw hh
  have fault := no_other (x := .fault) nofun nofun
  have none := no_other (x := .none) nofun nofun
  simp only [exists_get_eq] at fault none weak
  simp only [combine, if_neg fault, if_neg none, if_pos weak]

theorem combine_healthy (healthy : ∀ k, r.get k = .healthy) : combine r = .healthy := by
  have hr : r.r = .healthy := healthy .r
  have hg : r.g = .healthy := healthy .g
  have hb : r.b = .healthy := healthy .b
  simp [combine, hr, hg, hb]

end Combine

theorem rowResults_get (cfg : Configuration) (cal : Calibration) (pe : Probe) (row : Fin 48) (k : Colour) :
    (rowResults cfg cal pe row).get k = pairResult cfg cal pe (pairOf row k) := by
  cases k <;> rfl

section SiteVerdict

variable {cfg : Configuration} {cal : Calibration} {pe : Probe} {j : Fin 16}

theorem siteVerdictOf_absent (h : ∃ k, (cal.sites.get (diagonalSite pe.q j).index).get k = 0) :
    (siteVerdictOf cfg cal pe j).verdict = .none :=
  if_pos ((siteIsAbsent_iff _).mpr h)

theorem siteVerdictOf_present (h : ∀ k, (cal.sites.get (diagonalSite pe.q j).index).get k ≠ 0) :
    (siteVerdictOf cfg cal pe j).verdict = combine (rowResults cfg cal pe (spareRow j)) :=
  if_neg fun absent => by
    obtain ⟨k, zero⟩ := (siteIsAbsent_iff _).mp absent
    exact h k zero

end SiteVerdict

/-- Settles O19: the last report is the pass end, whose parts are the lemmas above; a site's verdict is the combination of its colours unless it is ABSENT. -/
theorem passEnd : Obligations.PassEnd := by
  intro plan samples s run complete held clean last
  refine ⟨endPass { s with probe := s.probe.counted plan.chipOn samples },
    congrArg _ (senseReport_last run complete held clean last), ?_, ?_, ?_, ?_⟩
  · rw [endPass_eq]
    simp only [counted_p]
    rfl
  · rw [endPass_probe]
    refine (advanced_eq _ _).trans ?_
    simp only [counted_p, counted_q, counted_overrides, counted_sweepCount]
    cases s.probe.overrides <;> rfl
  · rw [endPass_probe]
    exact fun i => ⟨advanced_leak _ _ i, advanced_gain _ _ i⟩
  · intro j
    refine ⟨rfl, siteVerdictOf_absent, fun present => ?_⟩
    rw [siteVerdictOf_present present]
    simp only [← rowResults_get]
    exact ⟨combine_fault, fun fault none => combine_none (not_exists.mpr fault) none, combine_weak, combine_healthy⟩

end Sys2Proof.Machine
end

section
/-! In RUN the mode, the position, the configuration and the calibration stand (R14, R168, R171): they are kept by every change that a command makes, and the commands of the load do nothing there. -/

namespace Sys2Proof.Machine

/-- What a start settles and RUN leaves as it is: the mode, the position, the configuration and the calibration with their indications. -/
def State.setup (s : State) : Mode × Pos × Configuration × Bool × Calibration × Bool :=
  (s.mode, s.position, s.cfg, s.configDefault, s.calibration, s.calDefault)

theorem setup_eq_iff {s t : State} : t.setup = s.setup ↔
    t.mode = s.mode ∧ t.position = s.position ∧ t.cfg = s.cfg ∧ t.configDefault = s.configDefault ∧
      t.calibration = s.calibration ∧ t.calDefault = s.calDefault := by
  simp [State.setup]

theorem ite_setup {P : Prop} [Decidable P] {s t : State} (h : t.setup = s.setup) :
    (if P then t else s).setup = s.setup := by
  split
  · exact h
  · rfl

theorem queueWrite_setup (op : PendingWrite) (s : State) : (queueWrite op s).setup = s.setup := by
  unfold queueWrite
  split <;> rfl

theorem replaceFills_setup (edge : Edge) (positions : List (Fin 32)) (s : State) :
    (replaceFills edge positions s).setup = s.setup := by
  unfold replaceFills
  dsimp only
  split <;> rfl

/-- Every change of the tables, the ports and the store leaves what the start settled. -/
theorem setup_kept (s : State) : TableKept fun t => t.setup = s.setup where
  enqueue p n t h := by rw [enqueue_onlySends p n t]; exact h
  remedy _ _ _ h := h
  site _ _ _ h := h
  mark _ _ _ _ h := h
  raise _ _ h := h
  hear _ _ _ h _ := h
  request _ _ h := h
  fills edge positions t h := (replaceFills_setup edge positions t).trans h
  timer _ h := h
  entries _ _ h := h
  cell _ _ _ h := h
  queue op t h := (queueWrite_setup op t).trans h
  cancel _ _ h := h

/-! ## Restart, RESCAN and service requests -/

theorem sectionRestart_setup (s : State) : (sectionRestart s).setup = s.setup := by
  have k := setup_kept s
  have seam : (restartSeam s).setup = s.setup := rfl
  have evidence (t : State) : (restartEvidence t).setup = t.setup := rfl
  exact k.refresh _ (k.rechooseAll _ _ _ ((evidence _).trans (k.dropLost _ _ _ (k.freeLost _ _ _ seam))))

theorem rescanPart_setup (s : State) : (rescanPart s).setup = s.setup :=
  (setup_kept s).rechooseAll _ _ _ rfl

theorem clearRetiredList_setup (s : State) : (clearRetiredList s).setup = s.setup := by
  unfold clearRetiredList
  split
  · rfl
  · dsimp only
    split <;> rfl

theorem onCell_setup (x y : Byte) {effect : Cell → State → AckCode × State} (s : State)
    (h : ∀ c, (effect c s).2.setup = s.setup) : (onCell x y effect s).1.setup = s.setup := by
  unfold onCell
  split
  · rfl
  · exact h _

theorem carryOut_setup (command : ServiceCommand) (s : State) : (carryOut command s).1.setup = s.setup := by
  cases command with
  | querySummary => rfl
  | queryCell x y => unfold carryOut; dsimp only; split <;> rfl
  | querySite i j => unfold carryOut; dsimp only; split <;> rfl
  | queryEntry n => rfl
  | mark x y => exact onCell_setup x y s fun c => (setup_kept s).markCellRetired c s rfl
  | restore x y => exact onCell_setup x y s fun c => (setup_kept s).restoreCell c s rfl
  | rescan => exact rescanPart_setup s
  | clearFlags => rfl
  | clearRetired => exact clearRetiredList_setup s

theorem handleRequest_setup (p : PortId) (tag code : Byte) (arguments : List Byte) (s : State) :
    (handleRequest p tag code arguments s).1.setup = s.setup := by
  unfold handleRequest
  split
  · rfl
  · dsimp only
    split
    · rfl
    · exact carryOut_setup _ _

theorem serviceRequest_setup (rx : Rx) (tag code : Byte) (arguments : List Byte) (s : State) :
    (serviceRequest rx tag code arguments s).setup = s.setup := by
  unfold serviceRequest
  split
  · split
    · rfl
    · exact foldl_keeps (fun t _ h => (setup_kept s).enqueue _ _ t h) _ _ (handleRequest_setup _ _ _ _ _)
  · rfl

/-! ## Notices -/

section Notices

variable (s : State)

/-- A notice leaves what the start settled when its action does. -/
theorem receive_setup (rx : Rx) {act : State → State} (h : ∀ t, (act t).setup = t.setup) :
    (receive rx act s).setup = s.setup :=
  (setup_kept s).receive rx act (fun t ht => (h t).trans ht) s rfl

theorem receiveFromNeighbour_setup (rx : Rx) {act : Dir → State → State} (h : ∀ d t, (act d t).setup = t.setup) :
    (receiveFromNeighbour rx act s).setup = s.setup :=
  (setup_kept s).receiveFromNeighbour rx act (fun d t ht => (h d t).trans ht) s rfl

theorem receiveRequest_setup (rx : Rx) (tag code : Byte) (arguments : List Byte) :
    (receiveRequest rx tag code arguments s).setup = s.setup := by
  unfold receiveRequest
  split
  · exact receive_setup s rx (serviceRequest_setup rx tag code arguments)
  · rfl

theorem receiveNotice_setup (p : PortId) (n : Notice) : (receiveNotice p n s).setup = s.setup := by
  have k := setup_kept
  obtain ⟨src, dst, body⟩ := n
  unfold receiveNotice
  dsimp only
  cases body with
  | sectionRestart =>
    exact receive_setup s _ fun t => ite_setup (sectionRestart_setup t)
  | grant site c => exact receiveFromNeighbour_setup s _ fun d t => (k t).takeGrant d site c t rfl
  | refuse site c reason => exact receiveFromNeighbour_setup s _ fun d t => (k t).takeRefuse d site c reason t rfl
  | wait site c => exact receiveFromNeighbour_setup s _ fun d t => (k t).takeWait d site c t rfl
  | revoke site c => exact receiveFromNeighbour_setup s _ fun d t => (k t).takeRevoke d site c t rfl
  | release site c => exact receiveFromNeighbour_setup s _ fun d t => (k t).takeRelease d site c t rfl
  | claim c site _ => exact receiveFromNeighbour_setup s _ fun d t => (k t).takeClaim d c site t rfl
  | holdList pairs => exact receiveFromNeighbour_setup s _ fun d t => (k t).takeHoldList d pairs t rfl
  | loanList pairs => exact receiveFromNeighbour_setup s _ fun d t => (k t).takeLoanList d pairs t rfl
  | fillList edge positions =>
    exact receiveFromNeighbour_setup s _ fun d t => (k t).takeFillList d edge positions t rfl
  | serviceRequest tag code arguments => exact receive_setup s _ (serviceRequest_setup _ tag code arguments)
  | report tag kind bytes => exact receive_setup s _ fun _ => rfl

end Notices

/-! ## Video, probing and supply -/

theorem frameStart_setup (s : State) : (frameStart s).setup = s.setup := by
  unfold frameStart
  split <;> rfl

theorem receiveCode_setup (code : Code) (s : State) : (receiveCode code s).setup = s.setup := by
  unfold receiveCode
  split
  · rfl
  · split
    · exact frameStart_setup _
    · rfl

theorem endPass_setup (s : State) : (endPass s).setup = s.setup := by
  unfold endPass
  dsimp only
  split <;> rfl

theorem takeReport_setup (plan : ProbePlan) (samples : List Sample) (s : State) :
    (takeReport plan samples s).setup = s.setup := by
  unfold takeReport
  split
  · dsimp only
    split
    · exact endPass_setup _
    · rfl
  · rfl

theorem senseReport_setup (number : Fin 256) (samples : List Sample) (s : State) :
    (senseReport number samples s).setup = s.setup := by
  unfold senseReport
  split
  · split
    · exact ite_setup (takeReport_setup _ samples s)
    · rfl
  · rfl

/-! ## Silence, and the timers of the seam -/

theorem silenceNeighbour_setup (d : Dir) (s : State) : (silenceNeighbour d s).setup = s.setup := by
  have k := setup_kept s
  unfold silenceNeighbour
  split
  · rfl
  · refine ite_setup (k.dropLost _ _ _ (k.freeLost _ _ _ ?_))
    rfl

theorem portFailed_setup (p : PortId) (s : State) : (portFailed p s).setup = s.setup := by
  unfold portFailed
  dsimp only
  split <;> rfl

/-! ## The store -/

theorem completeAppend_setup (c : Cell) (s : State) : (completeAppend c s).setup = s.setup := by
  unfold completeAppend
  split <;> rfl

theorem beginAppend_setup (c : Cell) (o : Origin) (s : State) : (beginAppend c o s).setup = s.setup := by
  unfold beginAppend
  split
  · exact completeAppend_setup c s
  · split <;> rfl

theorem beginWrite_setup (s : State) : (beginWrite s).setup = s.setup := by
  unfold beginWrite
  split
  · split
    · exact beginAppend_setup _ _ _
    · split
      · exact beginAppend_setup _ _ _
      · rfl
      · rfl
  · rfl

theorem eraseIfWaiting_setup (s : State) : (eraseIfWaiting s).setup = s.setup := ite_setup rfl

theorem endWrite_setup (completed : Bool) (s : State) : (endWrite completed s).setup = s.setup := by
  unfold endWrite
  split
  · refine (eraseIfWaiting_setup _).trans ?_
    split
    · exact completeAppend_setup _ _
    · rfl
  · refine (eraseIfWaiting_setup _).trans ?_
    split <;> rfl
  · rfl

theorem endErase_setup (finished : Bool) (s : State) : (endErase finished s).setup = s.setup := by
  unfold endErase
  dsimp only
  split <;> rfl

/-! ## Every command -/

/-- In RUN a command but power and the reset line leaves what the start settled. -/
theorem exec_setup {c : Instr} {s : State} (run : s.mode = .run) (h : restartsPart c = false) :
    ∃ t, exec c s = .next t ∧ t.setup = s.setup := by
  have k := setup_kept s
  have noLoad (phase : LoadPhase) : ¬ s.loadsAt phase = true := by simp [State.loadsAt, run]
  cases c with
  | powerOn | resetAssert | resetRelease => cases h
  | storeReadyAtLoad | storeMissingTimeout | configRecordRead | calibrationAreaRead | retiredListRead | enterRun =>
    exact ⟨s, congrArg _ (if_neg (noLoad _)), rfl⟩
  | frameBeginMarker => exact ⟨_, rfl, by split <;> rfl⟩
  | videoCode code =>
    refine ⟨_, rfl, ?_⟩
    split
    · rfl
    · exact receiveCode_setup code s
  | driveFrameSent => exact ⟨_, rfl, rfl⟩
  | lossTimerLost | lossTimerDark | reEmitTick | darkFrameTick => exact ⟨_, rfl, ite_setup rfl⟩
  | senseReport number samples => exact ⟨_, rfl, senseReport_setup number samples s⟩
  | stallTimerExpiry => exact ⟨_, rfl, by split <;> rfl⟩
  | overrideAppend =>
    show ∃ t, execOverrideAppend s = .next t ∧ t.setup = s.setup
    unfold execOverrideAppend
    split <;> exact ⟨_, rfl, rfl⟩
  | supplyLow | supplyHigh => exact ⟨_, rfl, by split <;> rfl⟩
  | cellVerdict =>
    show ∃ t, execCellVerdict s = .next t ∧ t.setup = s.setup
    unfold execCellVerdict
    split
    · exact ⟨_, rfl, rfl⟩
    · exact ⟨_, rfl, k.takeCellVerdict _ _ rfl⟩
  | siteVerdict =>
    show ∃ t, execSiteVerdict s = .next t ∧ t.setup = s.setup
    unfold execSiteVerdict
    split
    · exact ⟨_, rfl, rfl⟩
    · exact ⟨_, rfl, k.takeSiteVerdict _ _ rfl⟩
  | sweepEnd =>
    refine ⟨_, rfl, ?_⟩
    split
    · rfl
    · exact k.takeSweepEnd _ rfl
  | claimRetryExpiry cell => exact ⟨_, rfl, k.retryClaim cell s rfl⟩
  | holdExpiry site => exact ⟨_, rfl, k.endHold site s rfl⟩
  | neighbourSilent d => exact ⟨_, rfl, silenceNeighbour_setup d s⟩
  | refreshTimerExpiry =>
    refine ⟨_, rfl, ?_⟩
    split
    · rfl
    · exact k.refresh s rfl
  | idleGapAttempt | attemptWon | contentionLost | quietTimerExpiry => exact ⟨_, rfl, rfl⟩
  | attemptFailed p => exact ⟨_, rfl, portFailed_setup p s⟩
  | noticeMalformed p bits =>
    refine ⟨_, rfl, ?_⟩
    split
    · rfl
    · exact receiveNotice_setup s p _
  | claimReceived rx c site n => exact ⟨_, rfl, receiveNotice_setup s rx.port ⟨rx.src, rx.dst, .claim c site n⟩⟩
  | grantReceived rx site c => exact ⟨_, rfl, receiveNotice_setup s rx.port ⟨rx.src, rx.dst, .grant site c⟩⟩
  | waitReceived rx site c => exact ⟨_, rfl, receiveNotice_setup s rx.port ⟨rx.src, rx.dst, .wait site c⟩⟩
  | refuseReceived rx site c reason =>
    exact ⟨_, rfl, receiveNotice_setup s rx.port ⟨rx.src, rx.dst, .refuse site c reason⟩⟩
  | revokeReceived rx site c => exact ⟨_, rfl, receiveNotice_setup s rx.port ⟨rx.src, rx.dst, .revoke site c⟩⟩
  | releaseReceived rx site c => exact ⟨_, rfl, receiveNotice_setup s rx.port ⟨rx.src, rx.dst, .release site c⟩⟩
  | holdListReceived rx pairs =>
    exact ⟨_, rfl, ite_setup (receiveNotice_setup s rx.port ⟨rx.src, rx.dst, .holdList pairs⟩)⟩
  | loanListReceived rx pairs =>
    exact ⟨_, rfl, ite_setup (receiveNotice_setup s rx.port ⟨rx.src, rx.dst, .loanList pairs⟩)⟩
  | fillListReceived rx edge positions =>
    exact ⟨_, rfl, ite_setup (receiveNotice_setup s rx.port ⟨rx.src, rx.dst, .fillList edge positions⟩)⟩
  | reportReceived rx tag kind body =>
    exact ⟨_, rfl, ite_setup (receiveNotice_setup s rx.port ⟨rx.src, rx.dst, .report tag kind body⟩)⟩
  | sectionRestart rx => exact ⟨_, rfl, receiveNotice_setup s rx.port ⟨rx.src, rx.dst, .sectionRestart⟩⟩
  | querySummary | queryCell | querySite | queryEntry | mark | restore | rescan | clearFlags | clearRetired
  | serviceRequestUnknown => exact ⟨_, rfl, receiveRequest_setup s _ _ _ _⟩
  | storeWriteBegin => exact ⟨_, rfl, beginWrite_setup s⟩
  | storeWriteEnd error readBack => exact ⟨_, rfl, ite_setup (endWrite_setup _ s)⟩
  | storeWriteTimeout => exact ⟨_, rfl, ite_setup (endWrite_setup _ s)⟩
  | storeEraseEnd error => exact ⟨_, rfl, ite_setup (endErase_setup _ s)⟩
  | storeEraseTimeout => exact ⟨_, rfl, ite_setup (endErase_setup _ s)⟩

/-- Settles O12: what the start settled stands through every command of RUN. -/
theorem configurationHoldsInRun : Obligations.ConfigurationHoldsInRun := by
  intro c s run h
  obtain ⟨t, e, same⟩ := exec_setup run h
  obtain ⟨mode, rest⟩ := setup_eq_iff.mp same
  exact ⟨t, e, mode.trans run, rest⟩

end Sys2Proof.Machine
end

section
/-! Entry to RUN (R175): the state after the remedies of the first stored entries in closed form, step by step along the table, and the voids of duplicate slots. -/

namespace Sys2Proof.Machine

/-! ## The tables that the choice of remedies writes -/

/-- The state with another remap table, site table and filled edge sets. -/
def State.withTables (s : State) (entries : List Entry) (sites : Tbl 256 SiteRecord)
    (filled : PerEdge (Tbl 32 Bool)) : State :=
  { s with entries := entries, sites := sites, seam := { s.seam with filledEdges := filled } }

/-- A cell's position on each of its edges written into the filled edge sets (R145). -/
def markEdges (c : Cell) (b : Bool) (filled : PerEdge (Tbl 32 Bool)) : PerEdge (Tbl 32 Bool) :=
  c.edges.foldl (fun t edge => t.set edge ((t.get edge).set (c.edgePosition edge) b)) filled

theorem markCell_eq (s : State) (c : Cell) (b : Bool) :
    s.markCell c b = { s with seam := { s.seam with filledEdges := markEdges c b s.seam.filledEdges } } := by
  unfold State.markCell markEdges
  induction c.edges generalizing s with
  | nil => rfl
  | cons edge edges ih => exact ih (s.markEdge edge (c.edgePosition edge) b)

/-- Writing one position of each of several edges. -/
theorem foldl_setEdge (at_ : Edge → Fin 32) (b : Bool) (edges : List Edge) (filled : PerEdge (Tbl 32 Bool))
    (edge : Edge) (p : Fin 32) :
    ((edges.foldl (fun t x => t.set x ((t.get x).set (at_ x) b)) filled).get edge).get p =
      if edge ∈ edges ∧ at_ edge = p then b else (filled.get edge).get p := by
  induction edges generalizing filled with
  | nil => simp
  | cons x edges ih =>
    rw [List.foldl_cons, ih, PerEdge.get_set]
    by_cases h : x = edge
    · subst h
      by_cases q : at_ x = p <;> simp [q, Tbl.get_set]
    · simp [h, Ne.symm h]

/-- A cell lies on an edge at a position exactly when it is the edge's cell there (R13). -/
theorem mem_edges_iff (c : Cell) (edge : Edge) (p : Fin 32) :
    edge ∈ c.edges ∧ c.edgePosition edge = p ↔ c = edge.cell p := by
  obtain ⟨x, y⟩ := c
  cases edge <;> simp [Cell.edges, Cell.edgePosition, Edge.cell, val_eq_last, and_comm]

theorem get_markEdges (c : Cell) (b : Bool) (filled : PerEdge (Tbl 32 Bool)) (edge : Edge) (p : Fin 32) :
    ((markEdges c b filled).get edge).get p = if c = edge.cell p then b else (filled.get edge).get p := by
  unfold markEdges
  rw [foldl_setEdge]
  simp only [mem_edges_iff]

/-! ## What entry to RUN gives each cell and each site (R15, R73, R74) -/

/-- The first stored cell whose home is a site of this tile: the site's at entry to RUN (R73, R85). -/
def firstHome (entries : List Entry) (site : Site) : Option Cell :=
  (entries.find? fun e => e.isRetired && decide (e.cell.home = .own site)).map Entry.cell

/-- Whether a site has a calibration value of 0 (R15). -/
def State.absentSite (s : State) (site : Site) : Bool := siteIsAbsent (s.calibration.sites.get site.index)

/-- The remedy that entry to RUN gives a stored cell: no neighbour has been heard yet, so no claim begins (R73, R74). -/
def State.remedyAtRun (s : State) (c : Cell) : Remedy :=
  match c.home with
  | .own site =>
    if s.absentSite site then .fill .siteAbsent
    else if firstHome s.entries site = some c then .ownSpare site
    else .fill .quadBusy
  | .foreign owner _ =>
    .fill (if s.position.neighbour s.cfg owner.toDir = none then .noNeighbour
      else if s.cfg.lending = false then .lendingOff else .ownerSilent)

theorem remedyAtRun_own (s : State) {c : Cell} {site : Site} (home : c.home = .own site) : s.remedyAtRun c =
    if s.absentSite site then .fill .siteAbsent
    else if firstHome s.entries site = some c then .ownSpare site
    else .fill .quadBusy := by
  simp only [State.remedyAtRun, home]

theorem remedyAtRun_foreign (s : State) {c : Cell} {owner : OwnerDir} {site : Site}
    (home : c.home = .foreign owner site) : s.remedyAtRun c =
      .fill (if s.position.neighbour s.cfg owner.toDir = none then .noNeighbour
        else if s.cfg.lending = false then .lendingOff else .ownerSilent) := by
  simp only [State.remedyAtRun, home]

/-- A site's record when the first entries of the table have their remedies. -/
def State.siteUpTo (s : State) (done : List Entry) (site : Site) : SiteRecord :=
  if s.absentSite site then ⟨.absent, false, 0, .never⟩
  else match firstHome done site with
    | none => ⟨.free, false, 0, .never⟩
    | some c => ⟨.own c, false, 0, .never⟩

/-- The site table when the first entries of the table have their remedies. -/
def State.sitesUpTo (s : State) (done : List Entry) : Tbl 256 SiteRecord :=
  Tbl.ofFn fun i => s.siteUpTo done (Site.ofIndex i)

/-- Whether one of the first entries has made a cell filled. -/
def State.filledUpTo (s : State) (done : List Entry) (c : Cell) : Bool :=
  done.any fun e => e.isRetired && (s.remedyAtRun e.cell).isFilled && decide (e.cell = c)

/-- The filled edge sets when the first entries of the table have their remedies. -/
def State.edgesUpTo (s : State) (done : List Entry) : PerEdge (Tbl 32 Bool) :=
  let marked (edge : Edge) : Tbl 32 Bool :=
    Tbl.ofFn fun p => (s.seam.filledEdges.get edge).get p || s.filledUpTo done (edge.cell p)
  ⟨marked .n, marked .e, marked .s, marked .w⟩

theorem PerEdge.ext_get {α : Type} {t u : PerEdge α} (h : ∀ edge, t.get edge = u.get edge) : t = u := by
  cases t
  cases u
  rw [PerEdge.mk.injEq]
  exact ⟨h .n, h .e, h .s, h .w⟩

/-- The part on its way into RUN when the first entries have their remedies and the rest wait (step 3 of R175). -/
def State.chosenUpTo (s : State) (done rest : List Entry) : State :=
  (enterRunTables s).withTables (done.map (fun e => e.withRemedy (s.remedyAtRun e.cell)) ++ rest)
    (s.sitesUpTo done) (s.edgesUpTo done)

section ChosenUpTo

variable {s : State} {done rest : List Entry}

@[simp] theorem sitesUpTo_get (i : Fin 256) : (s.sitesUpTo done).get i = s.siteUpTo done (Site.ofIndex i) :=
  Tbl.get_ofFn _ i

@[simp] theorem chosenUpTo_site (site : Site) : (s.chosenUpTo done rest).site site = s.siteUpTo done site := by
  simp [State.chosenUpTo, State.withTables, State.site]

theorem chosenUpTo_neighbour (d : Dir) : (s.chosenUpTo done rest).neighbour d =
    (s.position.neighbour s.cfg d).map fun p => ⟨p, .unheard, none⟩ := by
  cases d <;> rfl

theorem edgesUpTo_get (edge : Edge) (p : Fin 32) : ((s.edgesUpTo done).get edge).get p =
    ((s.seam.filledEdges.get edge).get p || s.filledUpTo done (edge.cell p)) := by
  cases edge <;> exact Tbl.get_ofFn _ p

end ChosenUpTo

/-- Before any entry has its remedy the tables are those of steps 1 and 2. -/
theorem chosenUpTo_nil (s : State) : s.chosenUpTo [] s.entries = enterRunTables s := by
  have sites : s.sitesUpTo [] = s.calibration.sites.map siteAtRun := by
    ext i
    simp only [sitesUpTo_get, Tbl.get_map, State.siteUpTo, siteAtRun, State.absentSite, Site.index_ofIndex]
    rfl
  have edges : s.edgesUpTo [] = s.seam.filledEdges := by
    refine PerEdge.ext_get fun edge => Tbl.ext_get fun p => ?_
    simp [edgesUpTo_get, State.filledUpTo]
  unfold State.chosenUpTo
  rw [sites, edges]
  rfl

/-- The state with another site table. -/
def State.withSites (s : State) (sites : Tbl 256 SiteRecord) : State := { s with sites := sites }

section WithSites

variable (s : State) (sites : Tbl 256 SiteRecord)

@[simp] theorem withSites_entries : (s.withSites sites).entries = s.entries := rfl
@[simp] theorem withSites_sites : (s.withSites sites).sites = sites := rfl
@[simp] theorem withSites_seam : (s.withSites sites).seam = s.seam := rfl
@[simp] theorem withSites_retiredEntry (c : Cell) : (s.withSites sites).retiredEntry c = s.retiredEntry c := rfl

@[simp] theorem withSites_withTables (entries : List Entry) (sites' : Tbl 256 SiteRecord)
    (filled : PerEdge (Tbl 32 Bool)) :
    (s.withSites sites).withTables entries sites' filled = s.withTables entries sites' filled := rfl

end WithSites

/-! ## One entry given its remedy -/

theorem firstHome_append (done rest : List Entry) (site : Site) :
    firstHome (done ++ rest) site = (firstHome done site).or (firstHome rest site) := by
  unfold firstHome
  rw [List.find?_append, Option.map_or]

theorem firstHome_nil (site : Site) : firstHome [] site = none := rfl

theorem firstHome_cons (e : Entry) (rest : List Entry) (site : Site) : firstHome (e :: rest) site =
    if e.isRetired = true ∧ e.cell.home = .own site then some e.cell else firstHome rest site := by
  unfold firstHome
  by_cases h : e.isRetired = true ∧ e.cell.home = .own site
  · simp [h]
  · rw [if_neg h, List.find?_cons_of_neg (by simpa using h)]

theorem firstHome_eq_some_iff {entries : List Entry} {site : Site} {c : Cell} : firstHome entries site = some c ↔
    ∃ older e newer, entries = older ++ e :: newer ∧ e.isRetired = true ∧ e.cell = c ∧ c.home = .own site ∧
      ∀ x ∈ older, x.isRetired = true → x.cell.home ≠ .own site := by
  unfold firstHome
  simp only [Option.map_eq_some_iff, List.find?_eq_some_iff_append, Bool.and_eq_true, decide_eq_true_eq,
    Bool.not_eq_true', Bool.and_eq_false_imp, decide_eq_false_iff_not]
  constructor
  · rintro ⟨e, ⟨⟨retired, home⟩, older, newer, table, before⟩, rfl⟩
    exact ⟨older, e, newer, table, retired, rfl, home, before⟩
  · rintro ⟨older, e, newer, table, retired, rfl, home, before⟩
    exact ⟨e, ⟨⟨retired, home⟩, older, newer, table, before⟩, rfl⟩

theorem mem_of_firstHome {entries : List Entry} {site : Site} {c : Cell} (h : firstHome entries site = some c) :
    c ∈ entries.map Entry.cell := by
  obtain ⟨e, he, rfl⟩ := Option.map_eq_some_iff.mp h
  exact List.mem_map_of_mem (List.mem_of_find?_eq_some he)

/-- The site of the entry whose turn it is: OWN for its cell when it is FREE; every other site stands (R73, R85). -/
theorem siteUpTo_snoc (s : State) (done : List Entry) (e : Entry) (site : Site) :
    s.siteUpTo (done ++ [e]) site =
      if e.isRetired = true ∧ e.cell.home = .own site ∧ (s.siteUpTo done site).state = .free then
        ⟨.own e.cell, false, 0, .never⟩
      else s.siteUpTo done site := by
  unfold State.siteUpTo
  rw [firstHome_append, firstHome_cons]
  by_cases absent : s.absentSite site = true
  · simp [absent]
  · cases firstHome done site with
    | some c => simp [absent]
    | none => by_cases h : e.isRetired = true ∧ e.cell.home = .own site <;> simp [absent, h, firstHome_nil]

theorem edgesUpTo_snoc (s : State) (done : List Entry) (e : Entry) : s.edgesUpTo (done ++ [e]) =
    if e.isRetired = true ∧ (s.remedyAtRun e.cell).isFilled = true then markEdges e.cell true (s.edgesUpTo done)
    else s.edgesUpTo done := by
  refine PerEdge.ext_get fun edge => Tbl.ext_get fun p => ?_
  have grown : s.filledUpTo (done ++ [e]) (edge.cell p) = (s.filledUpTo done (edge.cell p) ||
      (e.isRetired && (s.remedyAtRun e.cell).isFilled && decide (e.cell = edge.cell p))) := by
    simp [State.filledUpTo]
  rw [edgesUpTo_get, grown]
  split
  · rename_i h
    obtain ⟨retired, filled⟩ := h
    rw [get_markEdges, edgesUpTo_get, retired, filled]
    by_cases q : e.cell = edge.cell p <;> simp [q]
  · rename_i h
    rw [edgesUpTo_get]
    have : (e.isRetired && (s.remedyAtRun e.cell).isFilled) = false := by simpa using h
    simp [this]

/-- With one entry a cell, an entry's cell stands neither ahead of it nor behind it (R62). -/
theorem cell_apart {done rest : List Entry} {e : Entry} (nodup : ((done ++ e :: rest).map Entry.cell).Nodup) :
    e.cell ∉ done.map Entry.cell ∧ e.cell ∉ rest.map Entry.cell := by
  rw [List.map_append, List.map_cons, List.nodup_append, List.nodup_cons] at nodup
  obtain ⟨_, ⟨after, _⟩, apart⟩ := nodup
  exact ⟨fun h => apart _ h _ List.mem_cons_self rfl, after⟩

/-- An entry that stands once in the table is found under its cell. -/
theorem find_entry {done rest : List Entry} {e : Entry} (h : e.cell ∉ done.map Entry.cell) :
    (done ++ e :: rest).find? (fun x => x.cell == e.cell) = some e := by
  have none : done.find? (fun x => x.cell == e.cell) = none := by
    rw [List.find?_eq_none]
    intro x hx same
    exact h (List.mem_map.mpr ⟨x, hx, by simpa using same⟩)
  rw [List.find?_append, none]
  simp

theorem changeEntry_absent {c : Cell} {es : List Entry} (f : Entry → Entry) (h : c ∉ es.map Entry.cell) :
    changeEntry c f es = es := by
  unfold changeEntry
  conv_rhs => rw [← List.map_id es]
  refine List.map_congr_left fun x hx => if_neg fun same => h ?_
  exact List.mem_map.mpr ⟨x, hx, by simpa using same⟩

/-- An entry that stands once in the table is changed in its place. -/
theorem changeEntry_entry {done rest : List Entry} {e : Entry} (f : Entry → Entry)
    (h : e.cell ∉ done.map Entry.cell) (h' : e.cell ∉ rest.map Entry.cell) :
    changeEntry e.cell f (done ++ e :: rest) = done ++ f e :: rest := by
  have ahead := changeEntry_absent f h
  have behind := changeEntry_absent f h'
  unfold changeEntry at ahead behind ⊢
  rw [List.map_append, List.map_cons, ahead, behind, if_pos (by simp)]

/-- A remedy that begins no claim, given without lists to an entry that had none. -/
theorem giveRemedy_quietly {t : State} {c : Cell} {e : Entry} {r : Remedy} (h : t.retiredEntry c = some e)
    (bare : e.remedy = none) (quiet : ∀ u, beginClaim c r u = u) :
    giveRemedy false c r t = t.withTables (changeEntry c (fun e => e.withRemedy r) t.entries) t.sites
      (if r.isFilled = true then markEdges c true t.seam.filledEdges else t.seam.filledEdges) := by
  have unfilled : e.isFilled = false := by simp [Entry.isFilled, bare]
  rw [giveRemedy_told h, quiet, unfilled]
  unfold State.told
  cases r.isFilled with
  | true => exact markCell_eq _ c true
  | false => rfl

theorem beginClaim_remedyAtRun (s : State) (c d : Cell) (u : State) : beginClaim d (s.remedyAtRun c) u = u := by
  unfold State.remedyAtRun
  split
  · split
    · rfl
    · split <;> rfl
  · rfl

section Turn

variable {s : State} {done rest : List Entry} {e : Entry}

theorem chosenUpTo_retiredEntry (before : e.cell ∉ done.map Entry.cell) :
    (s.chosenUpTo done (e :: rest)).retiredEntry e.cell = if e.isRetired = true then some e else none := by
  have cells : (done.map fun e => e.withRemedy (s.remedyAtRun e.cell)).map Entry.cell = done.map Entry.cell := by
    simp [Function.comp_def]
  have found : (s.chosenUpTo done (e :: rest)).entryOf e.cell = some e := find_entry (cells ▸ before)
  unfold State.retiredEntry
  rw [found]
  cases h : e.isRetired <;> simp [Option.filter, h]

/-- The choice of an own cell when its turn comes, by the site as it then is (R73). -/
theorem remedyAtRun_turn (table : s.entries = done ++ e :: rest) (before : e.cell ∉ done.map Entry.cell)
    (retired : e.isRetired = true) {site : Site} (home : e.cell.home = .own site) :
    s.remedyAtRun e.cell =
      if (s.siteUpTo done site).state = .free then .ownSpare site
      else .fill (busyReason (s.siteUpTo done site).state) := by
  have ofAll : firstHome s.entries site = (firstHome done site).or (some e.cell) := by
    rw [table, firstHome_append, firstHome_cons, if_pos ⟨retired, home⟩]
  rw [remedyAtRun_own s home, ofAll]
  unfold State.siteUpTo
  by_cases absent : s.absentSite site = true
  · simp [absent, busyReason]
  · cases first : firstHome done site with
    | none => simp [absent]
    | some c =>
      have other : c ≠ e.cell := fun same => before (same ▸ mem_of_firstHome first)
      simp [absent, other, busyReason]

/-- The choice of a cell whose home is another tile's: no neighbour has been heard yet (R74). -/
theorem claimTests_chosenUpTo {owner : OwnerDir} {site : Site} (home : e.cell.home = .foreign owner site) :
    claimTests owner site (s.chosenUpTo done (e :: rest)) = s.remedyAtRun e.cell := by
  have cfg : (s.chosenUpTo done (e :: rest)).cfg = s.cfg := rfl
  rw [remedyAtRun_foreign s home]
  unfold claimTests
  rw [chosenUpTo_neighbour, cfg]
  cases s.position.neighbour s.cfg owner.toDir with
  | none => simp
  | some p => cases s.cfg.lending <;> simp

/-- A site that is still FREE has the record it enters RUN with. -/
theorem siteUpTo_free {site : Site} (free : (s.siteUpTo done site).state = .free) :
    s.siteUpTo done site = ⟨.free, false, 0, .never⟩ := by
  unfold State.siteUpTo at free ⊢
  split
  · simp_all
  · split <;> simp_all

/-- An entry whose home site is FREE takes it (R85). -/
theorem sitesUpTo_taken (retired : e.isRetired = true) {site : Site} (home : e.cell.home = .own site)
    (free : (s.siteUpTo done site).state = .free) :
    (s.chosenUpTo done (e :: rest)).withSites (s.sitesUpTo (done ++ [e])) =
      (s.chosenUpTo done (e :: rest)).setSiteState site (.own e.cell) := by
  have sites : s.sitesUpTo (done ++ [e]) = (s.sitesUpTo done).set site.index ⟨.own e.cell, false, 0, .never⟩ := by
    ext i
    rw [sitesUpTo_get, Tbl.get_set, siteUpTo_snoc]
    by_cases here : site.index = i
    · subst here
      simp [retired, home, free]
    · have elsewhere : e.cell.home ≠ .own (Site.ofIndex i) := by
        rw [home]
        rintro same
        obtain rfl := HomeSite.own.inj same
        exact here (Site.index_ofIndex i)
      rw [if_neg (fun h => elsewhere h.2.1), if_neg here, sitesUpTo_get]
  unfold State.setSiteState State.setSite
  rw [sites, chosenUpTo_site, siteUpTo_free free]
  rfl

/-- Any other entry takes no site. -/
theorem sitesUpTo_untaken
    (none : ∀ site, e.isRetired = true → e.cell.home = .own site → (s.siteUpTo done site).state ≠ .free) :
    s.sitesUpTo (done ++ [e]) = s.sitesUpTo done := by
  ext i
  rw [sitesUpTo_get, sitesUpTo_get, siteUpTo_snoc, if_neg]
  rintro ⟨retired, home, free⟩
  exact none _ retired home free

/-- An entry's turn: its remedy is that of entry to RUN, after its site, where it takes one, has become OWN (R73, R74, R85). -/
theorem chooseRemedy_turn (table : s.entries = done ++ e :: rest) (before : e.cell ∉ done.map Entry.cell)
    (retired : e.isRetired = true) :
    chooseRemedy false e.cell (s.chosenUpTo done (e :: rest)) =
      giveRemedy false e.cell (s.remedyAtRun e.cell)
        ((s.chosenUpTo done (e :: rest)).withSites (s.sitesUpTo (done ++ [e]))) := by
  unfold chooseRemedy
  rw [chosenUpTo_retiredEntry before, if_pos retired]
  dsimp only
  cases home : e.cell.home with
  | own site =>
    dsimp only
    rw [chosenUpTo_site, remedyAtRun_turn table before retired home]
    by_cases free : (s.siteUpTo done site).state = .free
    · rw [if_pos free, if_pos free, sitesUpTo_taken retired home free]
    · rw [if_neg free, if_neg free, sitesUpTo_untaken]
      · rfl
      · intro other _ same
        obtain rfl := HomeSite.own.inj (home.symm.trans same)
        exact free
  | foreign owner site =>
    dsimp only
    rw [claimTests_chosenUpTo home, sitesUpTo_untaken]
    · rfl
    · intro other _ same
      cases home.symm.trans same

theorem chosenUpTo_snoc : s.chosenUpTo (done ++ [e]) rest =
    (s.chosenUpTo done (e :: rest)).withTables
      (done.map (fun e => e.withRemedy (s.remedyAtRun e.cell)) ++ e.withRemedy (s.remedyAtRun e.cell) :: rest)
      (s.sitesUpTo (done ++ [e])) (s.edgesUpTo (done ++ [e])) := by
  unfold State.chosenUpTo
  rw [List.map_append, List.append_assoc]
  rfl

theorem withRemedy_dim {e : Entry} (dim : ¬ e.isRetired = true) (r : Remedy) : e.withRemedy r = e := by
  obtain ⟨c, o, body⟩ := e
  cases body with
  | dim gains => rfl
  | retired => exact absurd rfl dim

/-- An entry's turn leaves the tables as they are when one more entry has its remedy. -/
theorem chooseRemedy_chosenUpTo (table : s.entries = done ++ e :: rest) (nodup : (s.entries.map Entry.cell).Nodup)
    (bare : e.remedy = none) :
    chooseRemedy false e.cell (s.chosenUpTo done (e :: rest)) = s.chosenUpTo (done ++ [e]) rest := by
  obtain ⟨before, after⟩ := cell_apart (table ▸ nodup)
  have entry := chosenUpTo_retiredEntry (s := s) (rest := rest) before
  by_cases retired : e.isRetired = true
  · rw [if_pos retired, ← withSites_retiredEntry _ (s.sitesUpTo (done ++ [e]))] at entry
    have edges : (s.chosenUpTo done (e :: rest)).seam.filledEdges = s.edgesUpTo done := rfl
    have written : changeEntry e.cell (fun x => x.withRemedy (s.remedyAtRun e.cell))
        (s.chosenUpTo done (e :: rest)).entries =
          done.map (fun x => x.withRemedy (s.remedyAtRun x.cell)) ++ e.withRemedy (s.remedyAtRun e.cell) :: rest :=
      changeEntry_entry _ (by simpa [Function.comp_def] using before) after
    rw [chooseRemedy_turn table before retired,
      giveRemedy_quietly entry bare (beginClaim_remedyAtRun s e.cell e.cell), chosenUpTo_snoc, edgesUpTo_snoc]
    simp only [withSites_entries, withSites_sites, withSites_seam, withSites_withTables, written, edges, retired,
      true_and]
  · rw [if_neg retired] at entry
    have unchosen : chooseRemedy false e.cell (s.chosenUpTo done (e :: rest)) = s.chosenUpTo done (e :: rest) := by
      unfold chooseRemedy
      rw [entry]
    rw [unchosen, chosenUpTo_snoc, sitesUpTo_untaken fun _ h => absurd h retired, edgesUpTo_snoc,
      if_neg fun h => retired h.1, withRemedy_dim retired]
    rfl

end Turn

/-- The remedies of all stored entries, chosen in ascending position (R78, step 3 of R175). -/
theorem chooseStored_eq (s : State) (nodup : (s.entries.map Entry.cell).Nodup)
    (bare : ∀ e ∈ s.entries, e.remedy = none) : chooseStored (enterRunTables s) = s.chosenUpTo s.entries [] := by
  have turns (rest : List Entry) : ∀ done, s.entries = done ++ rest →
      (rest.map Entry.cell).foldl (fun s c => chooseRemedy false c s) (s.chosenUpTo done rest) =
        s.chosenUpTo s.entries [] := by
    induction rest with
    | nil =>
      intro done table
      rw [List.append_nil] at table
      rw [table]
      rfl
    | cons e rest ih =>
      intro done table
      rw [List.map_cons, List.foldl_cons, chooseRemedy_chosenUpTo table nodup (bare e (by simp [table]))]
      exact ih _ (by simp [table])
  have all := turns s.entries [] rfl
  rw [chosenUpTo_nil] at all
  exact all

/-! ## The voids of duplicate slots (R174, R177; log entry 14) -/

/-- Voids queued one after another, as far as the list has room; STORE_FULL when one finds none. -/
theorem foldl_queueVoid (slots : List (Fin 128)) (s : State) :
    slots.foldl (fun s slot => queueWrite (.void slot) s) s = { s with
      flags := { s.flags with
        storeFull := s.flags.storeFull || decide (8 - s.store.pendingWrites.length < slots.length) }
      store := { s.store with pendingWrites := s.store.pendingWrites ++
        (slots.take (8 - s.store.pendingWrites.length)).map PendingWrite.void } } := by
  induction slots generalizing s with
  | nil => simp
  | cons slot slots ih =>
    rw [List.foldl_cons, ih]
    unfold queueWrite
    by_cases room : s.store.pendingWrites.length < 8
    · obtain ⟨free, hfree⟩ : ∃ free, 8 - s.store.pendingWrites.length = free + 1 :=
        ⟨7 - s.store.pendingWrites.length, by omega⟩
      have left : 8 - (s.store.pendingWrites.length + 1) = free := by omega
      simp [room, hfree, left]
    · have full : 8 - s.store.pendingWrites.length = 0 := by omega
      simp [room, full, State.raise, Flags.raise]

/-! ## The state that the refresh finds -/

/-- The part after steps 1 to 6 of R175. -/
def State.atRun (s : State) : State :=
  { s with
    mode := .run
    entries := s.entries.map fun e => e.withRemedy (s.remedyAtRun e.cell)
    sites := s.sitesUpTo s.entries
    seam := { s.seam with neighbours := neighbourTable s.position s.cfg, filledEdges := s.edgesUpTo s.entries }
    ports := s.ports.map (portAtRun s.position)
    supply := { s.supply with state := if s.supply.input then .good else .low, countdown := s.cfg.settleFrames }
    probe := { Probe.cleared with stallTimer := some 0 }
    flags := { s.flags with
      storeFull := s.flags.storeFull || decide (8 - s.store.pendingWrites.length < s.store.duplicates.length) }
    store := { s.store with
      pendingWrites := s.store.pendingWrites ++
        (s.store.duplicates.take (8 - s.store.pendingWrites.length)).map PendingWrite.void
      duplicates := [] } }

theorem enterRun_eq (s : State) (nodup : (s.entries.map Entry.cell).Nodup)
    (bare : ∀ e ∈ s.entries, e.remedy = none) : enterRun s = refresh s.atRun := by
  unfold enterRun queueDuplicateVoids
  rw [chooseStored_eq s nodup bare, foldl_queueVoid]
  unfold State.chosenUpTo
  rw [List.append_nil]
  rfl

section AtRun

variable {s : State}

theorem atRun_neighbour (d : Dir) :
    s.atRun.neighbour d = (s.position.neighbour s.cfg d).map fun p => ⟨p, .unheard, none⟩ := by
  cases d <;> rfl

theorem atRun_site (site : Site) : s.atRun.site site = s.siteUpTo s.entries site :=
  chosenUpTo_site (rest := []) site

/-- Every stored RETIRED entry has its remedy, and no other. -/
theorem atRun_remedyOf (bare : ∀ e ∈ s.entries, e.remedy = none) (c : Cell) :
    s.atRun.remedyOf c = (s.retiredEntry c).map fun _ => s.remedyAtRun c := by
  have entry : s.atRun.entryOf c = (s.entryOf c).map fun e => e.withRemedy (s.remedyAtRun e.cell) := by
    unfold State.entryOf State.atRun
    rw [List.find?_map]
    simp
  unfold State.remedyOf State.retiredEntry
  rw [entry]
  cases found : s.entryOf c with
  | none => rfl
  | some e =>
    have cell := entryOf_cell s found
    by_cases retired : e.isRetired = true
    · simp [Option.filter, retired, withRemedy_remedy, cell]
    · simp [Option.filter, retired, withRemedy_dim, bare e (entryOf_mem s found)]

theorem entryOf_of_mem (nodup : (s.entries.map Entry.cell).Nodup) {e : Entry} (h : e ∈ s.entries) :
    s.entryOf e.cell = some e := by
  obtain ⟨done, rest, table⟩ := List.append_of_mem h
  obtain ⟨before, _⟩ := cell_apart (table ▸ nodup)
  unfold State.entryOf
  rw [table]
  exact find_entry before

theorem retiredEntry_of_mem (nodup : (s.entries.map Entry.cell).Nodup) {e : Entry} (h : e ∈ s.entries) :
    s.retiredEntry e.cell = if e.isRetired = true then some e else none := by
  unfold State.retiredEntry
  rw [entryOf_of_mem nodup h]
  simp [Option.filter]

theorem atRun_isFilledCell (nodup : (s.entries.map Entry.cell).Nodup) (bare : ∀ e ∈ s.entries, e.remedy = none)
    (c : Cell) : s.atRun.isFilledCell c = s.filledUpTo s.entries c := by
  unfold State.isFilledCell
  rw [atRun_remedyOf bare, Bool.eq_iff_iff]
  simp only [State.filledUpTo, List.any_eq_true, Bool.and_eq_true, decide_eq_true_eq]
  constructor
  · intro h
    cases found : s.retiredEntry c with
    | none => simp [found] at h
    | some e =>
      obtain ⟨entry, retired⟩ := Option.filter_eq_some_iff.mp found
      have cell := entryOf_cell s entry
      exact ⟨e, entryOf_mem s entry, ⟨retired, by simpa [found, cell] using h⟩, cell⟩
  · rintro ⟨e, mem, ⟨retired, filled⟩, rfl⟩
    rw [retiredEntry_of_mem nodup mem, if_pos retired]
    exact filled

end AtRun

/-- Settles O11: entry to RUN is the refresh of `State.atRun`, whose sites and remedies are read off case by case. -/
theorem entryToRun : Obligations.EntryToRun := by
  intro s loading complete nodup bare absent first room ready
  have absent_iff (site : Site) : absent site ↔ s.absentSite site = true := (siteIsAbsent_iff _).symm
  have first_iff (site : Site) (c : Cell) : first site c ↔ firstHome s.entries site = some c :=
    firstHome_eq_some_iff.symm
  refine ⟨s.atRun, rfl, atRun_neighbour, ?_, ?_, ?_, ?_, ?_⟩
  · intro site
    rw [atRun_site, absent_iff]
    unfold State.siteUpTo
    refine ⟨fun h => if_pos h, fun h => ?_⟩
    rw [if_neg h]
    constructor
    · intro c hc
      rw [(first_iff site c).mp hc]
    · intro no
      have unused : firstHome s.entries site = none :=
        Option.eq_none_iff_forall_ne_some.mpr fun c hc => no c ((first_iff site c).mpr hc)
      rw [unused]
  · intro c stored
    obtain ⟨e, he⟩ := Option.isSome_iff_exists.mp stored
    have remedy : s.atRun.remedyOf c = some (s.remedyAtRun c) := by rw [atRun_remedyOf bare, he]; rfl
    constructor
    · intro site home
      simp only [remedy, remedyAtRun_own s home, absent_iff, first_iff]
      refine ⟨fun h => ?_, fun h first => ?_, fun h late => ?_⟩
      · rw [if_pos h]
      · rw [if_neg h, if_pos first]
      · rw [if_neg h, if_neg late]
    · intro owner site home
      rw [remedy, remedyAtRun_foreign s home]
  · refine List.map_congr_left fun e mem => ?_
    rw [atRun_remedyOf bare, retiredEntry_of_mem nodup mem]
    by_cases retired : e.isRetired = true
    · rw [if_pos retired]
      rfl
    · rw [if_neg retired]
      exact withRemedy_dim retired _
  · intro edge p
    rw [atRun_isFilledCell nodup bare]
    exact edgesUpTo_get edge p
  · show execEnterRun s = _
    unfold execEnterRun
    rw [if_pos (by simp [State.loadsAt, loading, complete]), enterRun_eq s nodup bare, refresh_listsSent]

end Sys2Proof.Machine
end

section
/-! The Probe Engine between frames: the chip sequence, a report that does not end the pass, the result of a row and colour, the verdict of a cell, aborts and requests (R19 to R26, R30, R31, R34, R37, R38), and the supply-good input (R176). -/

namespace Sys2Proof.Machine

/-! ## The chip sequence (R19) -/

theorem nextChip_odd {chip : Nat} (h : chip % 2 = 1) : nextChip chip = (chip / 2) ^^^ 48 := if_pos h

theorem nextChip_even {chip : Nat} (h : chip % 2 = 0) : nextChip chip = chip / 2 := if_neg (by omega)

/-- The chip states of a pass, in their order. -/
def chipStates : List Nat := (List.range 63).map chipAfter

theorem chipStates_cover : ∀ v ∈ List.range' 1 63, v ∈ chipStates := by decide +kernel

/-- Settles O17: every state of 1..63 stands in the list of the pass's states; the rest is the sequence computed. -/
theorem chipSequence : Obligations.ChipSequence := by
  refine ⟨fun _ => nextChip_odd, fun _ => nextChip_even, fun v low high => ?_, by decide +kernel, by decide +kernel, by decide +kernel⟩
  have mem : v ∈ chipStates := chipStates_cover v (List.mem_range'_1.mpr ⟨low, by omega⟩)
  obtain ⟨n, hn, rfl⟩ := List.mem_map.mp mem
  exact ⟨n, List.mem_range.mp hn, rfl⟩

/-! ## A report taken (R20, R22) -/

section Report

variable {s : State} {number : Fin 256} {samples : List Sample} {plan : ProbePlan}

theorem senseReport_discarded
    (h : ¬ (s.mode = .run ∧ samples.length = 144 ∧ ∃ plan, s.probe.plan = some plan ∧ plan.number = number)) :
    senseReport number samples s = s := by
  unfold senseReport
  split
  · rename_i run
    split
    · rename_i plan held
      exact if_neg fun ⟨same, complete⟩ => h ⟨run, complete, plan, held, same⟩
    · rfl
  · rfl

theorem senseReport_taken (run : s.mode = .run) (complete : samples.length = 144) (held : s.probe.plan = some plan)
    (same : plan.number = number) : senseReport number samples s = takeReport plan samples s := by
  simp [senseReport, run, complete, held, same]

theorem takeReport_unclean (h : s.probe.clean = false) :
    takeReport plan samples s = { s with probe := s.probe.consumed } := by
  simp [takeReport, h]

theorem takeReport_counted (clean : s.probe.clean = true) (more : s.probe.n ≠ 62) :
    takeReport plan samples s = { s with probe := s.probe.counted plan.chipOn samples } := by
  simp [takeReport, clean, more]

theorem takeReport_last (clean : s.probe.clean = true) (last : s.probe.n = 62) :
    takeReport plan samples s = endPass { s with probe := s.probe.counted plan.chipOn samples } := by
  simp [takeReport, clean, last]

end Report

section CountedFrame

variable (on : Bool) (samples : List Sample) (pe : Probe)

/-- A counted frame outside the sums and marks (R22). -/
theorem counted_eq_moved : pe.counted on samples = { pe with
    plan := none, stallTimer := some 0, n := pe.n + 1
    chip := if pe.chip % 2 = 1 then (pe.chip / 2) ^^^ 48 else pe.chip / 2
    onCount := pe.onCount + on.toNat
    offCount := pe.offCount + (!on).toNat
    onSum := (pe.counted on samples).onSum, offSum := (pe.counted on samples).offSum
    sat := (pe.counted on samples).sat } := by
  cases on <;> rfl

theorem counted_onSum (i : Fin 144) : (pe.counted on samples).onSum.get i =
    pe.onSum.get i + if on then (samples.getD i.val 0).val else 0 := by
  cases on <;> simp [Probe.counted, Probe.consumed, addSamples]

theorem counted_offSum (i : Fin 144) : (pe.counted on samples).offSum.get i =
    pe.offSum.get i + if on then 0 else (samples.getD i.val 0).val := by
  cases on <;> simp [Probe.counted, Probe.consumed, addSamples]

theorem counted_sat (i : Fin 144) : (pe.counted on samples).sat.get i =
    (pe.sat.get i || on && decide ((samples.getD i.val 0).val = 4095)) := by
  cases on <;> simp [Probe.counted, Probe.consumed, markSaturated]

end CountedFrame

/-- Settles O18: a report is discarded, taken uncounted or counted by what the engine holds. -/
theorem senseReportCounted : Obligations.SenseReportCounted := by
  intro number samples s
  refine ⟨fun h => congrArg _ (senseReport_discarded h), fun plan run complete held same => ?_⟩
  have taken : exec (.senseReport number samples) s = .next (takeReport plan samples s) :=
    congrArg _ (senseReport_taken run complete held same)
  refine ⟨fun unclean => ?_, fun clean more => ⟨s.probe.counted plan.chipOn samples, ?_, ?_, fun i => ?_⟩⟩
  · rw [taken, takeReport_unclean unclean]
    rfl
  · rw [taken, takeReport_counted clean more]
  · exact counted_eq_moved plan.chipOn samples s.probe
  · exact ⟨counted_onSum _ _ _ i, counted_offSum _ _ _ i, counted_sat _ _ _ i⟩

/-! ## The result of a row and colour (R25, R26) -/

theorem pairRow_pairOf (row : Fin 48) (k : Colour) : pairRow (pairOf row k) = row := by
  cases k <;> simp only [pairRow, pairOf, Colour.index, Fin.ext_iff] <;> omega

theorem pairColour_pairOf (row : Fin 48) (k : Colour) : pairColour (pairOf row k) = k := by
  cases k <;> simp [pairColour, pairOf, Colour.index, Nat.add_mod]

section Expected

variable (cal : Calibration) (pe : Probe) (k : Colour)

theorem expected_cellRow (y : Fin 32) : expected cal pe (pairOf (cellRow y) k) =
    (cal.cells.get (diagonalCell pe.p y).index).get k := by
  simp only [expected, pairRow_pairOf, pairColour_pairOf]
  exact dif_pos y.isLt

theorem expected_spareRow (j : Fin 16) : expected cal pe (pairOf (spareRow j) k) =
    (cal.sites.get (diagonalSite pe.q j).index).get k := by
  have here : (32 + j.val - 32) % 16 = j.val := by omega
  simp only [expected, pairRow_pairOf, pairColour_pairOf, spareRow, here]
  exact dif_neg (by omega)

end Expected

/-- Settles O20: the order of R25 is that of the definition, for the emitter that the row and colour carry. -/
theorem resultOfRowAndColour : Obligations.ResultOfRowAndColour := by
  intro cfg cal pe k
  constructor
  · intro y
    unfold pairResult scaledExpected
    simp only [expected_cellRow, leaks, decide_eq_true_eq]
    rfl
  · intro j
    unfold pairResult scaledExpected
    simp only [expected_spareRow, leaks, decide_eq_true_eq]
    rfl

/-! ## A cell's verdict (R30, R31) -/

theorem rowGains_get (cfg : Configuration) (cal : Calibration) (pe : Probe) (y : Fin 32) (k : Colour) :
    (rowGains cfg cal pe (cellRow y)).get k =
      compensationGain (pairResult cfg cal pe (pairOf (cellRow y) k))
        ((cal.cells.get (diagonalCell pe.p y).index).get k * 2 ^ pe.gain.get (pairOf (cellRow y) k))
        (difference pe (pairOf (cellRow y) k)) := by
  rw [← expected_cellRow]
  cases k <;> rfl

/-- Settles O21: the judgement follows the combination of the three results, and a WEAK one carries the row's gains. -/
theorem verdictsCombineColours : Obligations.VerdictsCombineColours := by
  intro cfg cal pe y
  have judged : (cellVerdictOf cfg cal pe y).judgement =
      judgement (combine (rowResults cfg cal pe (cellRow y))) (rowGains cfg cal pe (cellRow y)) := rfl
  refine ⟨rfl, rfl, fun k => by cases k <;> rfl, ?_⟩
  simp only [judged, ← rowResults_get]
  refine ⟨fun fault => ?_, fun noFault none => ?_, fun healthy => ?_, fun lit weak => ?_⟩
  · rw [combine_fault fault]
    rfl
  · rw [combine_none (not_exists.mpr noFault) none]
    rfl
  · rw [combine_healthy healthy]
    rfl
  · rw [combine_weak lit weak]
    refine ⟨_, rfl, fun k => ?_⟩
    rw [rowGains_get, rowResults_get]
    rfl

/-! ## Aborts, requests and the supply (R34, R37, R38, R176) -/

theorem appendOverride_eq (d : Fin 16) (list : List (Fin 16)) : appendOverride d list =
    if d ∈ list ∨ 4 ≤ list.length then list else list ++ [d] := by
  unfold appendOverride Config.overridePlaces
  by_cases listed : d ∈ list
  · simp [listed]
  · by_cases full : 4 ≤ list.length
    · rw [if_neg listed, if_neg (Nat.not_lt.mpr full), if_pos (Or.inr full)]
    · simp [listed, full, Nat.lt_of_not_le full]

/-- Settles O22: each command by the branch of its definition that its state picks. -/
theorem stallOverrideAndSupply : Obligations.StallOverrideAndSupply := by
  intro s
  refine ⟨fun stopped => congrArg _ (if_pos stopped), fun n running => congrArg _ (if_neg (by simp [running])),
    fun none => ?_, fun d rest asked => ?_, fun run => ⟨congrArg _ (if_pos run), congrArg _ (if_pos run)⟩,
    fun other => ⟨congrArg _ (if_neg other), congrArg _ (if_neg other)⟩⟩
  · show execOverrideAppend s = _
    simp only [execOverrideAppend, none]
  · show execOverrideAppend s = _
    simp only [execOverrideAppend, asked, appendOverride_eq]

end Sys2Proof.Machine
end

section
/-! The frame start in RUN: the snapshot read back as the tables it copies, the drives rendered from it, and the state that the last code of a window leaves (R17, R21, R99, R105 to R112, R176). -/

namespace Sys2Proof.Machine

/-! ## The snapshot and the tables it copies (R106, R107) -/

section Snapshot

variable (s : State)

@[simp] theorem snapshot_cell (e : Entry) : e.snapshot.cell = e.cell := by
  obtain ⟨c, o, body⟩ := e
  cases body <;> rfl

theorem snapshot_entry (c : Cell) : s.snapshot.entry c = (s.entryOf c).map Entry.snapshot := by
  simp [Snapshot.entry, State.snapshot, State.entryOf, List.find?_map]

theorem snapshot_site (site : Site) : s.snapshot.sites.get site.index = (s.site site).state.snapshot :=
  Tbl.get_map _ _ _

theorem snapshot_ownFilled (c : Cell) : s.snapshot.ownFilled c = s.isFilledCell c := by
  unfold Snapshot.ownFilled State.isFilledCell State.remedyOf
  rw [snapshot_entry]
  cases s.entryOf c with
  | none => rfl
  | some e =>
    obtain ⟨d, o, body⟩ := e
    cases body <;> rfl

theorem snapshot_filled (e : ExtCell) : s.snapshot.filled e = s.fillsAt e := by
  unfold Snapshot.filled State.fillsAt
  cases Cell.ofInts e.x e.y with
  | some c => exact snapshot_ownFilled s c
  | none =>
    rw [Bool.eq_iff_iff]
    simp [State.snapshot]

/-! ## The drives rendered from it (R108, R110, R112) -/

variable (vi : Intake)

theorem cellFill_snapshot (c : Cell) (k : Colour) :
    cellFill s.cfg.fillShare vi s.snapshot c k = s.fillFor vi c k := by
  unfold cellFill State.fillFor fillShareOf
  simp only [snapshot_filled]

theorem cellDrive_snapshot (c : Cell) (k : Colour) : cellDrive s.cfg.fillShare vi s.snapshot c k =
    match s.entryOf c with
    | none => min 65535 (vi.code c.ext k + s.fillFor vi c k)
    | some e =>
      match e.body with
      | .dim gains => min 65535 (vi.code c.ext k * gains.get k / 4096 + s.fillFor vi c k)
      | .retired .. => 0 := by
  unfold cellDrive
  rw [snapshot_entry, cellFill_snapshot]
  cases s.entryOf c with
  | none => rfl
  | some e =>
    obtain ⟨d, o, body⟩ := e
    cases body <;> rfl

theorem siteDrive_snapshot (site : Site) (k : Colour) : siteDrive vi s.snapshot site k =
    match (s.site site).state with
    | .own c => vi.code c.ext k
    | .lent d c => vi.code (c.seenFrom d.toDir) k
    | _ => 0 := by
  unfold siteDrive
  rw [snapshot_site]
  cases (s.site site).state <;> rfl

end Snapshot

theorem ofFn_get {α : Type} (f : Colour → α) (k : Colour) : (Rgb.ofFn f).get k = f k := by cases k <;> rfl

theorem renderFrame_cell (share : Nat) (vi : Intake) (sn : Snapshot) (plan : Option ProbePlan) (c : Cell) (k : Colour) :
    ((renderFrame share vi sn plan).cells.get c.index).get k = cellDrive share vi sn c k := by
  simp [renderFrame, ofFn_get]

theorem renderFrame_site (share : Nat) (vi : Intake) (sn : Snapshot) (plan : Option ProbePlan) (site : Site)
    (k : Colour) : ((renderFrame share vi sn plan).sites.get site.index).get k = siteDrive vi sn site k := by
  simp [renderFrame, ofFn_get]

/-! ## The frame start (R99, R105, R176) -/

theorem frameStarted_countdown (su : Supply) : su.frameStarted =
    { su with countdown := if su.state = .good then su.countdown - 1 else su.countdown } := by
  unfold Supply.frameStarted
  split <;> rfl

theorem offer_eq (ru : Render) (f : DriveFrame) : ru.offer f = { ru with
    sending := if ru.sending = none then some (.rendered, f) else ru.sending
    waiting := if ru.sending = none then ru.waiting else some f } := by
  obtain ⟨sn, sending, waiting, last⟩ := ru
  cases sending <;> rfl

/-- The code that completes a window raises the frame start on it (R99). -/
theorem receiveCode_completes {code : Code} {codes : List Code} {s : State} (receiving : s.intake.receiving = some codes)
    (full : (code :: codes).length = 3468) : receiveCode code s =
      frameStart { s with intake := { s.intake with
        window := ⟨(code :: codes).reverse, by rw [List.length_reverse, full]⟩, receiving := none } } := by
  unfold receiveCode
  rw [receiving]
  exact dif_pos full

/-- In RUN the code that completes a window is a frame start on that window, its parts in the words of the rules. -/
theorem exec_videoCode_completes {code : Code} {codes : List Code} {s : State} (run : s.mode = .run)
    (receiving : s.intake.receiving = some codes) (w : Tbl 3468 Code) (hw : w.data = (code :: codes).reverse) :
    exec (.videoCode code) s = .next { s with
      intake := ⟨w, none, .receiving, some 0⟩
      probe := { s.probe with
        plan := some (probePlan s.cfg s.probe), nextPlan := s.probe.nextPlan + 1, clean := s.supply.clean }
      supply := { s.supply with
        countdown := if s.supply.state = .good then s.supply.countdown - 1 else s.supply.countdown }
      render :=
        let f := renderFrame s.cfg.fillShare ⟨w, none, .receiving, some 0⟩ s.snapshot (some (probePlan s.cfg s.probe))
        { s.render with
          snapshot := s.snapshot
          sending := if s.render.sending = none then some (.rendered, f) else s.render.sending
          waiting := if s.render.sending = none then s.render.waiting else some f } } := by
  obtain ⟨data, len⟩ := w
  obtain rfl : data = (code :: codes).reverse := hw
  show execVideoCode code s = _
  unfold execVideoCode
  rw [if_neg (by simp [run]), receiveCode_completes receiving (by rw [← List.length_reverse, len]), frameStart,
    if_pos run, frameStartInRun, offer_eq, frameStarted_countdown]
  rfl

end Sys2Proof.Machine

namespace Sys2Proof

open Machine

/-- Settles O14: the window completed is the frame start's, whose frame is rendered from the snapshot of the tables as they stand. -/
theorem frameStartInRun : Obligations.FrameStartInRun := by
  intro code codes s run receiving short
  let w : Tbl 3468 Code := ⟨(code :: codes).reverse, by simp [short]⟩
  let plan := probePlan s.cfg s.probe
  refine ⟨w, plan, renderFrame s.cfg.fillShare ⟨w, none, .receiving, some 0⟩ s.snapshot (some plan), rfl, rfl, rfl,
    rfl, fun y => ?_, fun j => ?_, rfl, rfl, fun c k => ?_, fun site k => ?_,
    exec_videoCode_completes run receiving w rfl⟩
  · exact congrArg Fin.val (Tbl.get_ofFn _ y)
  · exact congrArg Fin.val (Tbl.get_ofFn _ j)
  · exact (renderFrame_cell _ _ _ _ c k).trans (cellDrive_snapshot s _ c k)
  · exact (renderFrame_site _ _ _ _ site k).trans (siteDrive_snapshot s _ site k)

end Sys2Proof
end

section
/-! What every command and every step keeps: the elementary changes of the engine, the ports, the pending write list and the foreign fill list, and one lemma for each operation built from them; and the step with no command waiting (R34, R36, R147, R153, R161, R177; log entries 5, 6, 26). -/

namespace Sys2Proof.Machine

/-! ## The elementary changes -/

/-- Every change that an event makes of the Probe Engine. -/
inductive Probe.Moves (pe : Probe) : Probe → Prop
  | firstPass : Moves pe { Probe.cleared with stallTimer := some 0 }
  | issued (cfg : Configuration) (clean : Bool) : Moves pe { pe.issued cfg with clean := clean }
  | unclean : Moves pe { pe with clean := false }
  | consumed : Moves pe pe.consumed
  | counted {plan : ProbePlan} (samples : List Sample) (held : pe.plan = some plan) (more : pe.n ≠ 62) :
      Moves pe (pe.counted plan.chipOn samples)
  | passEnd (cfg : Configuration) (on : Bool) (samples : List Sample) :
      Moves pe ((pe.counted on samples).advanced cfg)
  | aborted : Moves pe pe.aborted
  | rescanned : Moves pe pe.rescanned
  | restarted : Moves pe pe.restarted
  | asked (d : Fin 16) : Moves pe { pe with overrides := appendOverride d pe.overrides }
  | timed (timer : Timer) : Moves pe { pe with stallTimer := timer }

/-- Every change that an event makes of a Link Port, but the queueing of a notice. -/
inductive Port.Moves (port : Port) : Port → Prop
  | atRun (p : Pos) : Moves port (portAtRun p port)
  | idleGap : Moves port port.idleGap
  | won : Moves port port.won
  | lost : Moves port port.lost
  | failed : Moves port port.failed
  | quietOver : Moves port port.quietOver
  | restarted : Moves port port.restarted
  | timed (timer : Timer) : Moves port { port with quietTimer := timer }

/-- The parts of the state that the properties below speak of. -/
def State.watched (s : State) : List Instr × Probe × PerPort Port × List PendingWrite × List FillRecord :=
  (s.pending, s.probe, s.ports, s.store.pendingWrites, s.seam.foreignFills)

/-- A property of the watched parts that each elementary change keeps. -/
structure PartKept (P : State → Prop) : Prop where
  frame : ∀ {s t}, P s → t.watched = s.watched → P t
  started : ∀ straps s, P s → P (startPart straps s)
  probe : ∀ {pe} s, s.probe.Moves pe → P s → P { s with probe := pe }
  port : ∀ p {port} s, (s.port p).Moves port → P s → P (s.setPort p port)
  enqueue : ∀ p n s, P s → P (enqueue p n s)
  queue : ∀ op s, P s → P (queueWrite op s)
  fewerWrites : ∀ {ops} s, ops.Sublist s.store.pendingWrites → P s →
    P { s with store := { s.store with pendingWrites := ops } }
  fills : ∀ edge positions s, P s → P (replaceFills edge positions s)
  fewerFills : ∀ {records} s, records.Sublist s.seam.foreignFills → P s →
    P { s with seam := { s.seam with foreignFills := records } }

theorem removeLastAppend_sublist (c : Cell) (ops : List PendingWrite) : (removeLastAppend c ops).Sublist ops := by
  unfold removeLastAppend
  simpa using (List.eraseP_sublist (p := PendingWrite.appends c) (l := ops.reverse)).reverse

/-- A command on a cell keeps what its effect keeps. -/
theorem onCell_keeps {P : State → Prop} (x y : Byte) {effect : Cell → State → AckCode × State} (s : State) (h : P s)
    (he : ∀ c, P (effect c s).2) : P (onCell x y effect s).1 := by
  unfold onCell
  split
  · exact h
  · exact he _

namespace PartKept

variable {P : State → Prop} (k : PartKept P)
include k

/-- The operations on the tables are built from the elementary changes. -/
theorem table : TableKept P where
  enqueue := k.enqueue
  remedy _ _ _ h := k.frame h rfl
  site _ _ _ h := k.frame h rfl
  mark _ _ _ _ h := k.frame h rfl
  raise _ _ h := k.frame h rfl
  hear _ _ _ h _ := k.frame h rfl
  request _ _ h := k.frame h rfl
  fills := k.fills
  timer _ h := k.frame h rfl
  entries _ _ h := k.frame h rfl
  cell _ _ _ h := k.frame h rfl
  queue := k.queue
  cancel c s h := k.fewerWrites s (removeLastAppend_sublist c _) h

theorem mapPorts {f : Port → Port} (hf : ∀ port : Port, port.Moves (f port)) (s : State) (h : P s) :
    P { s with ports := s.ports.map f } :=
  k.port .b (s.setPort .a (f s.ports.a)) (hf s.ports.b) (k.port .a s (hf s.ports.a) h)

/-! ## Restart, RESCAN and service requests -/

theorem sectionRestart (s : State) (h : P s) : P (sectionRestart s) := by
  have emptied : P (restartSeam s) :=
    k.frame (k.fewerFills _ (List.nil_sublist _) (k.mapPorts (fun _ => .restarted) s h)) rfl
  have evidence (t : State) (ht : P t) : P (restartEvidence t) := k.frame (k.probe t .restarted ht) rfl
  exact k.table.refresh _ (k.table.rechooseAll _ _ _ (evidence _ (k.table.dropLost _ _ _
    (k.table.freeLost _ _ _ emptied))))

theorem rescanPart (s : State) (h : P s) : P (rescanPart s) :=
  k.table.rechooseAll _ _ _ (k.frame (k.probe s .rescanned h) rfl)

theorem clearRetiredList (s : State) (h : P s) : P (clearRetiredList s) := by
  have emptied := k.fewerWrites s (List.nil_sublist _) h
  unfold Machine.clearRetiredList
  split
  · exact h
  · dsimp only
    split <;> exact k.frame emptied rfl

theorem carryOut (command : ServiceCommand) (s : State) (h : P s) : P (carryOut command s).1 := by
  cases command with
  | querySummary | queryEntry => exact h
  | queryCell x y => unfold Machine.carryOut; dsimp only; split <;> exact h
  | querySite i j => unfold Machine.carryOut; dsimp only; split <;> exact h
  | mark x y => exact onCell_keeps x y s h fun c => k.table.markCellRetired c s h
  | restore x y => exact onCell_keeps x y s h fun c => k.table.restoreCell c s h
  | rescan => exact k.rescanPart s h
  | clearFlags => exact k.frame h rfl
  | clearRetired => exact k.clearRetiredList s h

theorem handleRequest (p : PortId) (tag code : Byte) (arguments : List Byte) (s : State) (h : P s) :
    P (handleRequest p tag code arguments s).1 := by
  have tagged : P (s.setLastTag p tag) := k.frame h rfl
  unfold Machine.handleRequest
  split
  · exact tagged
  · dsimp only
    split
    · exact tagged
    · exact k.carryOut _ _ tagged

theorem serviceRequest (rx : Rx) (tag code : Byte) (arguments : List Byte) (s : State) (h : P s) :
    P (serviceRequest rx tag code arguments s) := by
  unfold Machine.serviceRequest
  split
  · split
    · exact k.frame h rfl
    · exact foldl_keeps (fun t _ ht => k.enqueue _ _ t ht) _ _ (k.handleRequest _ _ _ _ _ h)
  · exact h

theorem receiveRequest (rx : Rx) (tag code : Byte) (arguments : List Byte) (s : State) (h : P s) :
    P (receiveRequest rx tag code arguments s) := by
  unfold Machine.receiveRequest
  split
  · exact k.table.receive rx _ (fun t ht => k.serviceRequest rx tag code arguments t ht) s h
  · exact h

/-! ## Notices -/

theorem receiveNotice (p : PortId) (n : Notice) (s : State) (h : P s) : P (receiveNotice p n s) := by
  have toSeam (rx : Rx) {act : Dir → State → State} (ha : ∀ d t, P t → P (act d t)) :
      P (receiveFromNeighbour rx act s) := k.table.receiveFromNeighbour rx act ha s h
  obtain ⟨src, dst, body⟩ := n
  unfold Machine.receiveNotice
  dsimp only
  cases body with
  | sectionRestart =>
    refine k.table.receive _ _ (fun t ht => ?_) s h
    split
    · exact k.sectionRestart t ht
    · exact ht
  | grant site c => exact toSeam _ fun d => k.table.takeGrant d site c
  | refuse site c reason => exact toSeam _ fun d => k.table.takeRefuse d site c reason
  | wait site c => exact toSeam _ fun d => k.table.takeWait d site c
  | revoke site c => exact toSeam _ fun d => k.table.takeRevoke d site c
  | release site c => exact toSeam _ fun d => k.table.takeRelease d site c
  | claim c site _ => exact toSeam _ fun d => k.table.takeClaim d c site
  | holdList pairs => exact toSeam _ fun d => k.table.takeHoldList d pairs
  | loanList pairs => exact toSeam _ fun d => k.table.takeLoanList d pairs
  | fillList edge positions => exact toSeam _ fun d => k.table.takeFillList d edge positions
  | serviceRequest tag code arguments => exact k.table.receive _ _ (k.serviceRequest _ tag code arguments) s h
  | report tag kind bytes => exact k.table.receive _ _ (fun _ ht => ht) s h

/-! ## The load and entry to RUN -/

theorem holdPart (s : State) (h : P s) : P (holdPart s) := k.frame (k.started s.position s h) rfl

theorem takeRecord (bytes : Tbl 32 Byte) (s : State) (h : P s) : P (takeRecord bytes s) := by
  unfold Machine.takeRecord
  split <;> exact k.frame h rfl

theorem takeCalibration (bytes : Tbl 7681 Byte) (s : State) (h : P s) : P (takeCalibration bytes s) := by
  unfold Machine.takeCalibration
  split <;> exact k.frame h rfl

theorem loadSlot (bytes : Tbl 512 Byte) (s : State) (slot : Fin 128) (h : P s) : P (loadSlot bytes s slot) := by
  unfold Machine.loadSlot
  split
  case h_4 =>
    split <;> exact k.frame h rfl
  all_goals exact k.frame h rfl

theorem takeRetiredList (bytes : Tbl 512 Byte) (s : State) (h : P s) : P (takeRetiredList bytes s) :=
  k.frame (foldl_keeps (k.loadSlot bytes) _ s h) rfl

theorem enterRun (s : State) (h : P s) : P (enterRun s) := by
  have tables : P (enterRunTables s) := k.frame (k.mapPorts (fun _ => .atRun s.position) s h) rfl
  have supplied : P (startSupply (chooseStored (enterRunTables s))) := k.frame (k.table.chooseStored _ tables) rfl
  have voids (t : State) (ht : P t) : P (queueDuplicateVoids t) :=
    k.frame (foldl_keeps (f := fun u slot => queueWrite (.void slot) u) (fun u _ => k.queue _ u) _ t ht) rfl
  exact k.table.refresh _ (voids _ (k.probe _ .firstPass supplied))

/-! ## Video, probing and the timers of the seam -/

theorem frameStart (s : State) (h : P s) : P (frameStart s) := by
  unfold Machine.frameStart
  split
  · exact k.frame (k.probe s (.issued s.cfg s.supply.clean) h) rfl
  · exact k.frame h rfl

theorem receiveCode (code : Code) (s : State) (h : P s) : P (receiveCode code s) := by
  unfold Machine.receiveCode
  split
  · exact h
  · split
    · exact k.frameStart _ (k.frame h rfl)
    · exact k.frame h rfl

theorem takeReport {plan : ProbePlan} (samples : List Sample) (s : State) (held : s.probe.plan = some plan) (h : P s) :
    P (takeReport plan samples s) := by
  cases clean : s.probe.clean with
  | false =>
    rw [takeReport_unclean clean]
    exact k.probe s .consumed h
  | true =>
    by_cases last : s.probe.n = 62
    · rw [takeReport_last clean last, endPass_eq]
      exact k.frame (k.probe s (.passEnd s.cfg plan.chipOn samples) h) rfl
    · rw [takeReport_counted clean last]
      exact k.probe s (.counted samples held last) h

theorem senseReport (number : Fin 256) (samples : List Sample) (s : State) (h : P s) :
    P (senseReport number samples s) := by
  unfold Machine.senseReport
  split
  · split
    · rename_i held
      split
      · exact k.takeReport samples s held h
      · exact h
    · exact h
  · exact h

theorem silenceNeighbour (d : Dir) (s : State) (h : P s) : P (silenceNeighbour d s) := by
  unfold Machine.silenceNeighbour
  split
  · exact h
  · split
    · have dropped (t : State) (ht : P t) : P (dropFills d t) := k.fewerFills t List.filter_sublist ht
      exact k.table.dropLost _ _ _ (k.table.freeLost _ _ _ (dropped _ (k.frame h rfl)))
    · exact h

theorem portFailed (p : PortId) (s : State) (h : P s) : P (portFailed p s) := by
  have failed := k.port p s .failed h
  unfold Machine.portFailed
  dsimp only
  split
  · exact k.frame failed rfl
  · exact failed

/-! ## The store -/

theorem completeAppend (c : Cell) (s : State) (h : P s) : P (completeAppend c s) := by
  unfold Machine.completeAppend
  split
  · exact h
  · exact k.frame h rfl

theorem beginAppend (c : Cell) (o : Origin) (s : State) (h : P s) : P (beginAppend c o s) := by
  unfold Machine.beginAppend
  split
  · exact k.completeAppend c s h
  · split <;> exact k.frame h rfl

theorem beginWrite (s : State) (h : P s) : P (beginWrite s) := by
  unfold Machine.beginWrite
  split
  · split
    · exact k.beginAppend _ _ _ (k.frame h rfl)
    · split
      case h_1 c o rest waiting =>
        exact k.beginAppend _ _ _ (k.frame (k.fewerWrites s (waiting ▸ List.sublist_cons_self _ rest) h) rfl)
      case h_2 slot rest waiting =>
        exact k.frame (k.fewerWrites s (waiting ▸ List.sublist_cons_self _ rest) h) rfl
      case h_3 => exact k.frame h rfl
  · exact h

theorem eraseIfWaiting (s : State) (h : P s) : P (eraseIfWaiting s) := by
  unfold Machine.eraseIfWaiting
  split
  · exact k.frame h rfl
  · exact h

theorem endWrite (completed : Bool) (s : State) (h : P s) : P (endWrite completed s) := by
  unfold Machine.endWrite
  split
  · refine k.eraseIfWaiting _ ?_
    split
    · exact k.completeAppend _ _ (k.frame h rfl)
    · exact k.frame h rfl
  · refine k.eraseIfWaiting _ ?_
    split <;> exact k.frame h rfl
  · exact h

theorem endErase (finished : Bool) (s : State) (h : P s) : P (endErase finished s) := by
  have appends := k.fewerWrites s (List.filter_sublist (p := PendingWrite.isAppend)) h
  unfold Machine.endErase
  dsimp only
  split <;> exact k.frame appends rfl

/-! ## Every command -/

/-- Every command keeps what the elementary changes keep. -/
theorem after (c : Instr) (s : State) (h : P s) : P (s.after c) := by
  have ite {p : Prop} [Decidable p] {t u : State} (ht : P t) (hu : P u) : P (if p then t else u) := by
    split
    · exact ht
    · exact hu
  have seam (rx : Rx) (body : NoticeBody) : P (Machine.receiveNotice rx.port ⟨rx.src, rx.dst, body⟩ s) :=
    k.receiveNotice rx.port _ s h
  cases c with
  | powerOn straps => exact k.started straps s h
  | resetAssert => exact k.holdPart s h
  | resetRelease straps => exact k.started straps s h
  | storeReadyAtLoad | storeMissingTimeout => exact ite (k.frame h rfl) h
  | configRecordRead bytes => exact ite (k.takeRecord bytes s h) h
  | calibrationAreaRead bytes => exact ite (k.takeCalibration bytes s h) h
  | retiredListRead bytes => exact ite (k.takeRetiredList bytes s h) h
  | enterRun => exact ite (k.enterRun s h) h
  | frameBeginMarker => exact ite h (k.frame h rfl)
  | videoCode code => exact ite h (k.receiveCode code s h)
  | driveFrameSent => exact k.frame h rfl
  | lossTimerLost | lossTimerDark | reEmitTick | darkFrameTick => exact ite (k.frame h rfl) h
  | senseReport number samples => exact k.senseReport number samples s h
  | stallTimerExpiry => exact ite h (k.probe s .aborted h)
  | overrideAppend =>
    show P (settled s (execOverrideAppend s))
    unfold execOverrideAppend
    split
    · exact h
    · exact k.frame (k.probe s (.asked _) h) rfl
  | supplyLow => exact ite (k.frame (k.probe s .unclean h) rfl) (k.frame h rfl)
  | supplyHigh => exact ite (k.frame h rfl) (k.frame h rfl)
  | cellVerdict =>
    show P (settled s (execCellVerdict s))
    unfold execCellVerdict
    split
    · exact h
    · exact k.table.takeCellVerdict _ _ (k.frame h rfl)
  | siteVerdict =>
    show P (settled s (execSiteVerdict s))
    unfold execSiteVerdict
    split
    · exact h
    · exact k.table.takeSiteVerdict _ _ (k.frame h rfl)
  | sweepEnd => exact ite h (k.table.takeSweepEnd _ (k.frame h rfl))
  | claimRetryExpiry cell => exact k.table.retryClaim cell s h
  | holdExpiry site => exact k.table.endHold site s h
  | neighbourSilent d => exact k.silenceNeighbour d s h
  | refreshTimerExpiry => exact ite h (k.table.refresh s h)
  | idleGapAttempt p => exact k.port p s .idleGap h
  | attemptWon p => exact k.port p s .won h
  | contentionLost p => exact k.port p s .lost h
  | attemptFailed p => exact k.portFailed p s h
  | quietTimerExpiry p => exact k.port p s .quietOver h
  | noticeMalformed p bits =>
    show P (settled s (execNoticeMalformed p bits s))
    unfold execNoticeMalformed
    cases readNotice bits with
    | none => exact h
    | some n => exact k.receiveNotice p n s h
  | claimReceived rx c site n => exact seam rx (.claim c site n)
  | grantReceived rx site c => exact seam rx (.grant site c)
  | waitReceived rx site c => exact seam rx (.wait site c)
  | refuseReceived rx site c reason => exact seam rx (.refuse site c reason)
  | revokeReceived rx site c => exact seam rx (.revoke site c)
  | releaseReceived rx site c => exact seam rx (.release site c)
  | holdListReceived rx pairs => exact ite (seam rx (.holdList pairs)) h
  | loanListReceived rx pairs => exact ite (seam rx (.loanList pairs)) h
  | fillListReceived rx edge positions => exact ite (seam rx (.fillList edge positions)) h
  | reportReceived rx tag kind body => exact ite (seam rx (.report tag kind body)) h
  | sectionRestart rx => exact seam rx .sectionRestart
  | querySummary rx tag => exact k.receiveRequest rx tag 0 [] s h
  | queryCell rx tag x y => exact k.receiveRequest rx tag 1 [x, y] s h
  | querySite rx tag i j => exact k.receiveRequest rx tag 2 [i, j] s h
  | queryEntry rx tag n => exact k.receiveRequest rx tag 3 [n] s h
  | mark rx tag x y => exact k.receiveRequest rx tag 4 [x, y] s h
  | restore rx tag x y => exact k.receiveRequest rx tag 5 [x, y] s h
  | rescan rx tag => exact k.receiveRequest rx tag 6 [] s h
  | clearFlags rx tag => exact k.receiveRequest rx tag 7 [] s h
  | clearRetired rx tag => exact k.receiveRequest rx tag 8 [] s h
  | serviceRequestUnknown rx tag code arguments => exact k.receiveRequest rx tag code arguments s h
  | storeWriteBegin => exact k.beginWrite s h
  | storeWriteEnd error readBack => exact ite (k.endWrite _ s h) h
  | storeWriteTimeout => exact ite (k.endWrite _ s h) h
  | storeEraseEnd error => exact ite (k.endErase _ s h) h
  | storeEraseTimeout => exact ite (k.endErase _ s h) h

/-! ## A tick -/

theorem whenDue (isDue : Bool) (c : Instr) (s : State) (h : P s) : P (s.whenDue isDue c) := by
  unfold State.whenDue
  split
  · exact k.after c s h
  · exact h

theorem timersCounted (s : State) (h : P s) : P s.timersCounted :=
  k.frame (k.mapPorts (fun port => .timed (counted 100 port.quietTimer)) _
    (k.probe s (.timed (counted 1000 s.probe.stallTimer)) h)) rfl

theorem intakeTick (s : State) (h : P s) : P s.intakeTick := by
  unfold State.intakeTick
  split
  · exact k.whenDue _ _ s h
  · split <;> exact k.after _ s h
  · exact k.after _ s h

theorem holdTick (s : State) (site : Site) (h : P s) : P (s.holdTick site) := by
  unfold State.holdTick
  split
  · exact k.whenDue _ _ s h
  · exact h

theorem retryTick (s : State) (c : Cell) (h : P s) : P (s.retryTick c) := by
  unfold State.retryTick
  split
  · exact k.whenDue _ _ s h
  · exact h

theorem silenceTick (s : State) (d : Dir) (h : P s) : P (s.silenceTick d) := by
  unfold State.silenceTick
  split
  · exact k.whenDue _ _ s h
  · exact h

theorem storeTick (s : State) (h : P s) : P s.storeTick := by
  unfold State.storeTick
  split <;> exact k.whenDue _ _ s h

theorem ticked (s : State) (h : P s) : P s.ticked := by
  unfold State.ticked
  refine k.storeTick _ (k.whenDue _ _ _ (k.whenDue _ _ _ (k.whenDue _ _ _ ?_)))
  refine foldl_keeps k.silenceTick _ _ (foldl_keeps k.retryTick _ _ (foldl_keeps k.holdTick _ _ ?_))
  exact k.whenDue _ _ _ (k.intakeTick _ (k.timersCounted _ (k.after _ _ (k.after _ _ h))))

end PartKept

/-! ## The step with no command waiting (log entries 5, 6, 26) -/

/-- The model's tick is that of the statements (log entry 6). -/
theorem tick_eq_ticked (s : State) : tick s = s.ticked := by
  have holds : State.holdTick = holdDue := funext fun t => funext (holdTick_eq t)
  have retries : State.retryTick = retryDue := funext fun t => funext (retryTick_eq t)
  have silences : State.silenceTick = silenceDue := funext fun t => funext (silenceTick_eq t)
  unfold tick takeDue State.ticked
  simp only [timersCounted_eq, intakeTick_eq, refreshTick_eq, storeTick_eq, holds, retries, silences]
  rfl

/-- Every command is answered by a next state. -/
theorem exec_after (c : Instr) (s : State) : exec c s = .next (s.after c) := by
  have next {o : Host.Outcome State Fault Refusal} (h : ∃ t, o = .next t) : o = .next (settled s o) := by
    obtain ⟨t, rfl⟩ := h
    rfl
  refine next ?_
  cases c with
  | overrideAppend =>
    show ∃ t, execOverrideAppend s = .next t
    unfold execOverrideAppend
    split <;> exact ⟨_, rfl⟩
  | cellVerdict =>
    show ∃ t, execCellVerdict s = .next t
    unfold execCellVerdict
    split <;> exact ⟨_, rfl⟩
  | siteVerdict =>
    show ∃ t, execSiteVerdict s = .next t
    unfold execSiteVerdict
    split <;> exact ⟨_, rfl⟩
  | _ => exact ⟨_, rfl⟩

/-- What the part does when no command waits, in the words of the statements: the first of its works that there is. -/
theorem idle_eq (s : State) : idle s =
    if s.mode = .held then s
    else if s.loadsAt .complete then s.after .enterRun
    else if s.handed.appendRequests ≠ [] then s.after .overrideAppend
    else if s.handed.cellVerdicts ≠ [] then s.after .cellVerdict
    else if s.handed.siteVerdicts ≠ [] then s.after .siteVerdict
    else if s.handed.sweepEnds ≠ 0 then s.after .sweepEnd
    else if s.storeCanBegin then s.after .storeWriteBegin
    else s.ticked := by
  rw [← tick_eq_ticked]
  rfl

namespace PartKept

variable {P : State → Prop} (k : PartKept P)
include k

theorem idle (s : State) (h : P s) : P (idle s) := by
  rw [idle_eq]
  split
  · exact h
  · split_ifs
    case neg => exact k.ticked s h
    all_goals exact k.after _ s h

/-- Every step keeps what the elementary changes keep, when taking a command from the queue does. -/
theorem step (hq : ∀ queue s, P s → P { s with pending := queue }) {s t : State} (h : P s)
    (e : step s = .next t) : P t := by
  unfold Machine.step at e
  split at e
  · obtain rfl := Host.Outcome.next.inj e
    exact k.idle s h
  · rw [exec_after] at e
    obtain rfl := Host.Outcome.next.inj e
    exact k.after _ _ (hq _ s h)

end PartKept

/-- No command and no step without one changes the waiting commands. -/
theorem pending_kept (queue : List Instr) : PartKept fun s => s.pending = queue where
  frame h e := (congrArg Prod.fst e).trans h
  started _ _ h := h
  probe _ _ h := h
  port _ _ _ _ h := h
  enqueue p n s h := by rw [enqueue_onlySends p n s]; exact h
  queue op s h := by unfold queueWrite; split <;> exact h
  fewerWrites _ _ h := h
  fills edge positions s h := by unfold replaceFills; dsimp only; split <;> exact h
  fewerFills _ _ h := h

/-- Settles O3: the works in the order in which `idle_eq` tries them. -/
theorem emptyQueueStep : Obligations.EmptyQueueStep := by
  intro s empty
  have stepped : step s = .next (idle s) := by unfold step; rw [empty]
  have pending : (idle s).pending = [] := (pending_kept []).idle s empty
  have notHeld (run : s.mode = .run) : ¬ s.mode = .held := by simp [run]
  have loaded (run : s.mode = .run) : ¬ s.loadsAt .complete = true := by simp [State.loadsAt, run]
  refine ⟨idle s, stepped, pending, ?_, ?_, ?_, ?_, ?_, ?_, ?_, ?_⟩ <;> simp only [exec_after, idle_eq]
  · exact fun held => if_pos held
  · intro loading complete
    rw [if_neg (by simp [loading]), if_pos (by simp [State.loadsAt, loading, complete])]
  · intro run asked
    rw [if_neg (notHeld run), if_neg (loaded run), if_pos asked]
  · intro run noRequest cells
    rw [if_neg (notHeld run), if_neg (loaded run), if_neg (not_not.mpr noRequest), if_pos cells]
  · intro run noRequest noCell sites
    rw [if_neg (notHeld run), if_neg (loaded run), if_neg (not_not.mpr noRequest), if_neg (not_not.mpr noCell),
      if_pos sites]
  · intro run noRequest noCell noSite sweep
    rw [if_neg (notHeld run), if_neg (loaded run), if_neg (not_not.mpr noRequest), if_neg (not_not.mpr noCell),
      if_neg (not_not.mpr noSite), if_pos sweep]
  · intro run nothing ready waiting
    have can : s.storeCanBegin = true := by simpa [State.storeCanBegin, run, ready, imp_iff_not_or] using waiting
    simp [notHeld run, loaded run, nothing, Handed.nothing, can]
  · intro on more nothing noStore
    have load : ¬ s.loadsAt .complete = true := by simpa [State.loadsAt] using more
    have cannot : ¬ s.storeCanBegin = true := by
      simpa [State.storeCanBegin, imp_iff_not_or, or_assoc] using noStore
    simp [on, load, nothing, Handed.nothing, cannot]

end Sys2Proof.Machine
end

section
/-! The pass and the lists as invariants of every step: the chip sequence, the counts, the sums and the gain levels of the pass in progress (R19, R22 to R24, R28, R29), and the capacities of the lists (R34, R147, R148, R160, R161, R177). -/

namespace Sys2Proof.Machine

/-! ## A pass that begins (R16, R24, R37, R39, R40) -/

theorem passSound_of_probe {s t : State} (h : PassSound s) (e : t.probe = s.probe) : PassSound t := by
  unfold PassSound
  rw [e]
  exact h

/-- A pass at its start, with no plan held, is sound when its gain levels and sweep count are in range. -/
theorem passSound_begun {s : State} {pe : Probe} (begun : pe = { pe.sumsCleared with stallTimer := pe.stallTimer })
    (noPlan : pe.plan = none) (gains : ∀ i, pe.gain.get i ≤ 3) (sweep : pe.sweepCount < 16777216) :
    PassSound { s with probe := pe } := by
  have n : pe.n = 0 := by rw [begun]; rfl
  have chip : pe.chip = 1 := by rw [begun]; rfl
  have onCount : pe.onCount = 0 := by rw [begun]; rfl
  have offCount : pe.offCount = 0 := by rw [begun]; rfl
  have onSum (i : Fin 144) : pe.onSum.get i = 0 := by rw [begun]; exact Tbl.get_fill 0 i
  have offSum (i : Fin 144) : pe.offSum.get i = 0 := by rw [begun]; exact Tbl.get_fill 0 i
  unfold PassSound
  simp only [n, chip, onCount, offCount, onSum, offSum, noPlan]
  exact ⟨by omega, rfl, rfl, trivial, fun _ => Nat.zero_le _, fun _ => Nat.zero_le _, gains, sweep, nofun⟩

/-! ## A counted frame and a pass end (R22, R28, R29, R33, R36) -/

section Counted

variable (on : Bool) (samples : List Sample) (pe : Probe)

@[simp] theorem counted_chip : (pe.counted on samples).chip = nextChip pe.chip := by cases on <;> rfl
@[simp] theorem counted_onCount : (pe.counted on samples).onCount = pe.onCount + on.toNat := by cases on <;> rfl
@[simp] theorem counted_offCount : (pe.counted on samples).offCount = pe.offCount + (!on).toNat := by cases on <;> rfl
@[simp] theorem counted_gain : (pe.counted on samples).gain = pe.gain := by cases on <;> rfl
@[simp] theorem counted_plan : (pe.counted on samples).plan = none := by cases on <;> rfl

end Counted

theorem passSound_counted {s : State} {plan : ProbePlan} (samples : List Sample) (held : s.probe.plan = some plan)
    (more : s.probe.n ≠ 62) (h : PassSound s) :
    PassSound { s with probe := s.probe.counted plan.chipOn samples } := by
  obtain ⟨n, chip, onCount, total, onSums, offSums, gains, sweep, plans⟩ := h
  have lit : plan.chipOn = chipIsOn (chipAfter s.probe.n) := chip ▸ plans plan held
  have sample (i : Fin 144) : (samples.getD i.val 0).val ≤ 4095 := Nat.le_of_lt_succ (samples.getD i.val 0).isLt
  unfold PassSound
  simp only [counted_n, counted_chip, counted_onCount, counted_offCount, counted_gain, counted_plan,
    counted_sweepCount, counted_onSum, counted_offSum]
  refine ⟨by omega, by rw [chip]; rfl, by rw [onCount, lit]; rfl, ?_, fun i => ?_, fun i => ?_, gains, sweep, nofun⟩
  · cases plan.chipOn <;> simp <;> omega
  · have := onSums i
    have := sample i
    cases plan.chipOn <;> simp <;> omega
  · have := offSums i
    have := sample i
    cases plan.chipOn <;> simp <;> omega

/-- The gain level of the next pass is in range when that of the pass is (R28, R29). -/
theorem nextGain_le {pe : Probe} {i : Fin 144} (h : pe.gain.get i ≤ 3) : nextGain pe i ≤ 3 := by
  unfold nextGain
  split
  · omega
  · split <;> omega

theorem passSound_advanced {s : State} {pe : Probe} (cfg : Configuration) (noPlan : pe.plan = none)
    (gains : ∀ i, pe.gain.get i ≤ 3) (sweep : pe.sweepCount < 16777216) :
    PassSound { s with probe := pe.advanced cfg } := by
  refine passSound_begun rfl noPlan (fun i => ?_) ?_
  · rw [show (pe.advanced cfg).gain.get i = nextGain pe i from Tbl.get_ofFn _ i]
    exact nextGain_le (gains i)
  · show (if pe.p.val = 31 then (pe.sweepCount + 1) % 16777216 else pe.sweepCount) < 16777216
    split <;> omega

/-- Every change of the engine keeps the pass sound. -/
theorem passSound_moves {s : State} {pe : Probe} (move : s.probe.Moves pe) (h : PassSound s) :
    PassSound { s with probe := pe } := by
  obtain ⟨n, chip, onCount, total, onSums, offSums, gains, sweep, plans⟩ := id h
  cases move with
  | firstPass => exact passSound_begun rfl rfl (fun i => (Tbl.get_fill 3 i).le) (by decide)
  | issued cfg clean =>
    refine ⟨n, chip, onCount, total, onSums, offSums, gains, sweep, ?_⟩
    rintro _ ⟨⟩
    rfl
  | unclean | asked | timed => exact h
  | consumed => exact ⟨n, chip, onCount, total, onSums, offSums, gains, sweep, nofun⟩
  | counted samples held more => exact passSound_counted samples held more h
  | passEnd cfg on samples =>
    exact passSound_advanced cfg (counted_plan _ _ _) (by simpa using gains) (by simpa using sweep)
  | aborted | rescanned => exact passSound_begun rfl rfl gains sweep
  | restarted => exact passSound_begun rfl rfl (fun i => (Tbl.get_fill 3 i).le) sweep

theorem passSound_starting (straps : Pos) (good : Bool) (queue : List Instr) :
    PassSound (State.starting straps good queue) :=
  passSound_of_probe (passSound_begun (s := State.starting straps good queue) (pe := Probe.cleared) rfl rfl
    (fun i => (Tbl.get_fill 3 i).le) (by decide)) rfl

theorem passSound_kept : PartKept PassSound where
  frame h e := passSound_of_probe h (congrArg (fun w => w.2.1) e)
  started straps s _ := passSound_starting straps _ _
  probe _ move h := passSound_moves move h
  port _ _ _ _ h := h
  enqueue p n s h := passSound_of_probe h (by rw [enqueue_onlySends p n s])
  queue op s h := passSound_of_probe h (by unfold queueWrite; split <;> rfl)
  fewerWrites _ _ h := h
  fills edge positions s h := passSound_of_probe h (by unfold replaceFills; dsimp only; split <;> rfl)
  fewerFills _ _ h := h

/-- Settles O56: the elementary changes keep the pass sound, so every step does. -/
theorem stepKeepsPassSound : Obligations.StepKeepsPassSound :=
  fun _ _ h e => passSound_kept.step (fun _ _ h => h) h e

/-! ## The queues of a port (R160, R161) -/

/-- The queue with a list replaced: the first waiting one that the new one replaces gives it its place. -/
theorem replaceWaiting_some {n : Notice} {queue queue' : List Notice} (h : replaceWaiting n queue = some queue') :
    ∃ ahead old behind, queue = ahead ++ old :: behind ∧ queue' = ahead ++ n :: behind ∧
      (∀ x ∈ ahead, replaces n x = false) ∧ replaces n old = true := by
  induction queue generalizing queue' with
  | nil => cases h
  | cons x queue ih =>
    unfold replaceWaiting at h
    split at h
    · rename_i hx
      obtain rfl := Option.some.inj h
      exact ⟨[], x, queue, rfl, rfl, nofun, hx⟩
    · rename_i hx
      obtain ⟨rest, found, rfl⟩ := Option.map_eq_some_iff.mp h
      obtain ⟨ahead, old, behind, rfl, rfl, keep, hold⟩ := ih found
      exact ⟨x :: ahead, old, behind, rfl, rfl, List.forall_mem_cons.mpr ⟨by simpa using hx, keep⟩, hold⟩

theorem replaceWaiting_none {n : Notice} {queue : List Notice} (h : replaceWaiting n queue = none) :
    ∀ x ∈ queue, replaces n x = false := by
  induction queue with
  | nil => nofun
  | cons x queue ih =>
    unfold replaceWaiting at h
    split at h
    · cases h
    · rename_i hx
      exact List.forall_mem_cons.mpr ⟨by simpa using hx, ih (Option.map_eq_none_iff.mp h)⟩

/-- A list and the one it replaces are replaced by the same lists. -/
theorem replaces_congr {n old : Notice} (h : replaces n old = true) (x : Notice) : replaces x n = replaces x old := by
  obtain ⟨edge, ps, ps', hn, ho⟩ | ⟨pairs, pairs', hn, ho, dst⟩ | ⟨pairs, pairs', hn, ho, dst⟩ :=
    (replaces_iff n old).mp h
  · cases hx : x.body <;> simp [replaces, hn, ho, hx]
  · cases hx : x.body <;> simp [replaces, hn, ho, hx, dst]
  · cases hx : x.body <;> simp [replaces, hn, ho, hx, dst]

/-- A notice put in the place of the one it replaces leaves no two lists of which one replaces the other. -/
theorem pairwise_replaced {n old : Notice} {ahead behind : List Notice} (keep : ∀ x ∈ ahead, replaces n x = false)
    (hold : replaces n old = true)
    (h : (ahead ++ old :: behind).Pairwise fun old new => replaces new old = false) :
    (ahead ++ n :: behind).Pairwise fun old new => replaces new old = false := by
  obtain ⟨before, after, across⟩ := List.pairwise_append.mp h
  obtain ⟨head, tail⟩ := List.pairwise_cons.mp after
  refine List.pairwise_append.mpr ⟨before, List.pairwise_cons.mpr ⟨fun x hx => ?_, tail⟩, fun a ha x hx => ?_⟩
  · rw [replaces_congr hold]
    exact head x hx
  · obtain rfl | hx := List.mem_cons.mp hx
    · exact keep a ha
    · exact across a ha x (List.mem_cons_of_mem _ hx)

theorem queuesSound_sublist {port port' : Port} (h : port.queuesSound) (a : port'.answers.Sublist port.answers)
    (n : port'.notices.Sublist port.notices) : port'.queuesSound := by
  obtain ⟨answers, notices, apart⟩ := h
  exact ⟨a.length_le.trans answers, n.length_le.trans notices, apart.sublist n⟩

/-- No change of a port lengthens or reorders its queues. -/
theorem moves_sublist {port port' : Port} (move : port.Moves port') :
    port'.answers.Sublist port.answers ∧ port'.notices.Sublist port.notices := by
  cases move with
  | atRun p => unfold portAtRun; split <;> exact ⟨.refl _, .refl _⟩
  | idleGap =>
    unfold Port.idleGap
    split
    · split
      case h_2 _ waiting =>
        refine ⟨?_, .refl _⟩
        rw [waiting]
        exact List.sublist_cons_self _ _
      case h_3 waiting =>
        refine ⟨.refl _, ?_⟩
        rw [waiting]
        exact List.sublist_cons_self _ _
      all_goals exact ⟨.refl _, .refl _⟩
    · exact ⟨.refl _, .refl _⟩
  | won => unfold Port.won; split <;> exact ⟨.refl _, .refl _⟩
  | lost => unfold Port.lost; split_ifs <;> exact ⟨.refl _, .refl _⟩
  | failed => unfold Port.failed; split_ifs <;> exact ⟨.refl _, .refl _⟩
  | quietOver => unfold Port.quietOver; split <;> exact ⟨.refl _, .refl _⟩
  | restarted => exact ⟨List.nil_sublist _, List.nil_sublist _⟩
  | timed => exact ⟨.refl _, .refl _⟩

/-! ## The override list and the foreign fill list (R34, R147, R148) -/

theorem appendOverride_sound (d : Fin 16) {list : List (Fin 16)} (room : list.length ≤ 4) (apart : list.Nodup) :
    (appendOverride d list).length ≤ 4 ∧ (appendOverride d list).Nodup := by
  rw [appendOverride_eq]
  split
  · exact ⟨room, apart⟩
  · rename_i h
    obtain ⟨new, free⟩ := not_or.mp h
    exact ⟨by rw [List.length_append, List.length_singleton]; omega, List.concat_eq_append ▸ apart.concat new⟩

theorem firstUses_nodup (positions : List (Fin 32)) : (firstUses positions).Nodup := by
  have grown (l : List (Fin 32)) : ∀ taken : List (Fin 32), taken.Nodup →
      (l.foldl (fun taken p => if p ∈ taken then taken else taken ++ [p]) taken).Nodup := by
    induction l with
    | nil => exact fun _ h => h
    | cons p l ih =>
      intro taken h
      refine ih _ ?_
      dsimp only
      split
      · exact h
      · rename_i new
        exact List.concat_eq_append ▸ h.concat new
  exact grown positions [] List.nodup_nil

/-- The records of one edge replaced, as far as there is room: within the places and each once. -/
theorem fillsReplaced_sound (edge : Edge) (positions : List (Fin 32)) {records : List FillRecord}
    (room : records.length ≤ 64) (apart : records.Nodup) :
    let kept := records.filter fun r => !decide (r.edge = edge)
    let new := ((firstUses positions).take (64 - kept.length)).map fun p => (⟨edge, p⟩ : FillRecord)
    (kept ++ new).length ≤ 64 ∧ (kept ++ new).Nodup := by
  intro kept new
  have short : kept.length ≤ 64 := (List.length_filter_le _ _).trans room
  have added : new.length ≤ 64 - kept.length := by
    rw [List.length_map]
    exact List.length_take_le _ _
  have once : new.Nodup := ((firstUses_nodup positions).sublist (List.take_sublist _ _)).map fun p q h =>
    (FillRecord.mk.inj h).2
  refine ⟨by rw [List.length_append]; omega, List.nodup_append.mpr ⟨apart.filter _, once, ?_⟩⟩
  rintro a ha b hb rfl
  obtain ⟨p, _, rfl⟩ := List.mem_map.mp hb
  simpa using (List.mem_filter.mp ha).2

/-! ## Every list of the part -/

theorem listsWithinCapacity_of_watched {s t : State} (h : ListsWithinCapacity s) (e : t.watched = s.watched) :
    ListsWithinCapacity t := by
  simp only [State.watched, Prod.mk.injEq] at e
  obtain ⟨-, probe, ports, writes, fills⟩ := e
  unfold ListsWithinCapacity
  rw [probe, ports, writes, fills]
  exact h

theorem listsWithinCapacity_port {s : State} (h : ListsWithinCapacity s) (p : PortId) : (s.port p).queuesSound := by
  obtain ⟨a, b, -⟩ := h
  cases p
  · exact a
  · exact b

theorem listsWithinCapacity_setPort {s : State} (h : ListsWithinCapacity s) (p : PortId) {port : Port}
    (sound : port.queuesSound) : ListsWithinCapacity (s.setPort p port) := by
  obtain ⟨a, b, rest⟩ := h
  cases p
  · exact ⟨sound, b, rest⟩
  · exact ⟨a, sound, rest⟩

theorem listsWithinCapacity_enqueue (p : PortId) (n : Notice) {s : State} (h : ListsWithinCapacity s) :
    ListsWithinCapacity (enqueue p n s) := by
  obtain ⟨answers, notices, apart⟩ := listsWithinCapacity_port h p
  have dropped : ListsWithinCapacity (s.raise .queueFull) := h
  cases hn : isAnswer n.body with
  | true =>
    by_cases room : (s.port p).answers.length < 4
    · rw [enqueue_answer hn p s room]
      exact listsWithinCapacity_setPort h p ⟨by simpa using room, notices, apart⟩
    · rw [enqueue_answer_full hn (Nat.le_of_not_lt room)]
      exact dropped
  | false =>
    cases waiting : replaceWaiting n (s.port p).notices with
    | some queue =>
      obtain ⟨ahead, old, behind, was, rfl, keep, hold⟩ := replaceWaiting_some waiting
      rw [enqueue_replacing hn waiting]
      rw [was] at notices apart
      exact listsWithinCapacity_setPort h p ⟨answers, by simpa using notices, pairwise_replaced keep hold apart⟩
    | none =>
      by_cases room : (s.port p).notices.length < 12
      · rw [enqueue_notice hn waiting room]
        refine listsWithinCapacity_setPort h p ⟨answers, by simpa using room, ?_⟩
        refine List.pairwise_append.mpr ⟨apart, List.pairwise_singleton _ _, fun x hx y hy => ?_⟩
        obtain rfl := List.mem_singleton.mp hy
        exact replaceWaiting_none waiting x hx
      · rw [enqueue_notice_full hn waiting (Nat.le_of_not_lt room)]
        exact dropped

/-- Every change of the engine keeps the override list within its places. -/
theorem overrides_moves {pe pe' : Probe} (move : pe.Moves pe') (room : pe.overrides.length ≤ 4)
    (apart : pe.overrides.Nodup) : pe'.overrides.length ≤ 4 ∧ pe'.overrides.Nodup := by
  cases move with
  | firstPass | restarted => exact ⟨Nat.zero_le 4, List.nodup_nil⟩
  | counted samples => rw [counted_overrides]; exact ⟨room, apart⟩
  | passEnd cfg on samples =>
    have tail : ((pe.counted on samples).advanced cfg).overrides = pe.overrides.tail := by
      rw [← counted_overrides on samples pe]
      rfl
    rw [tail]
    exact ⟨(List.tail_sublist _).length_le.trans room, apart.sublist (List.tail_sublist _)⟩
  | asked d => exact appendOverride_sound d room apart
  | issued | unclean | consumed | aborted | rescanned | timed => exact ⟨room, apart⟩

theorem listsWithinCapacity_starting (straps : Pos) (good : Bool) (queue : List Instr) :
    ListsWithinCapacity (State.starting straps good queue) := by
  have port : Port.cleared.queuesSound := ⟨Nat.zero_le 4, Nat.zero_le 12, .nil⟩
  exact ⟨port, port, Nat.zero_le 8, Nat.zero_le 4, .nil, Nat.zero_le 64, .nil⟩

theorem listsWithinCapacity_kept : PartKept ListsWithinCapacity where
  frame := listsWithinCapacity_of_watched
  started straps s _ := listsWithinCapacity_starting straps _ _
  probe s move h := by
    obtain ⟨a, b, writes, room, apart, fills⟩ := h
    obtain ⟨room', apart'⟩ := overrides_moves move room apart
    exact ⟨a, b, writes, room', apart', fills⟩
  port p _ s move h := by
    obtain ⟨answers, notices⟩ := moves_sublist move
    exact listsWithinCapacity_setPort h p (queuesSound_sublist (listsWithinCapacity_port h p) answers notices)
  enqueue p n _ h := listsWithinCapacity_enqueue p n h
  queue op s h := by
    obtain ⟨a, b, writes, rest⟩ := id h
    unfold queueWrite
    split
    · rename_i free
      exact ⟨a, b, by simpa using free, rest⟩
    · exact h
  fewerWrites s sub h := by
    obtain ⟨a, b, writes, rest⟩ := h
    exact ⟨a, b, sub.length_le.trans writes, rest⟩
  fills edge positions s h := by
    obtain ⟨a, b, writes, overrides, once, room, apart⟩ := h
    have replaced := fillsReplaced_sound edge positions room apart
    unfold replaceFills
    dsimp only
    split <;> exact ⟨a, b, writes, overrides, once, replaced⟩
  fewerFills s sub h := by
    obtain ⟨a, b, writes, overrides, once, room, apart⟩ := h
    exact ⟨a, b, writes, overrides, once, sub.length_le.trans room, apart.sublist sub⟩

/-- Settles O55: the elementary changes keep every list within its places, so every step does. -/
theorem stepKeepsListsWithinCapacity : Obligations.StepKeepsListsWithinCapacity :=
  fun _ _ h e => listsWithinCapacity_kept.step (fun _ _ h => h) h e

end Sys2Proof.Machine
end

section
/-! The state after reset: every block at its cleared values, and the invariants of the part met by them (R16, R42, R62, R64, R80, R109, R138, R153, R167, R187). -/

namespace Sys2Proof.Machine

/-! ## The cleared tables -/

section Cleared

variable (straps : Pos) (good : Bool) (queue : List Instr)

theorem starting_cell (c : Cell) : (State.starting straps good queue).cell c = CellRecord.initial :=
  Tbl.get_fill CellRecord.initial c.index

theorem starting_site (site : Site) : (State.starting straps good queue).site site = SiteRecord.initial :=
  Tbl.get_fill SiteRecord.initial site.index

theorem starting_port (p : PortId) : (State.starting straps good queue).port p = Port.cleared := by cases p <;> rfl

theorem starting_neighbour (d : Dir) : (State.starting straps good queue).neighbour d = none := by cases d <;> rfl

theorem starting_filledEdges (edge : Edge) (p : Fin 32) :
    ((State.starting straps good queue).seam.filledEdges.get edge).get p = false := by
  cases edge <;> exact Tbl.get_fill false p

end Cleared

/-- A table of zeros in all three colours. -/
theorem get_zeros {n : Nat} (i : Fin n) (k : Colour) : ((Tbl.fill n (Rgb.all 0)).get i).get k = 0 := by
  rw [Tbl.get_fill]
  cases k <;> rfl

/-- Settles O4: each field is the cleared value of its block, the tables by the lemmas above. -/
theorem resetValues : Obligations.ResetValues := by
  refine ⟨rfl, rfl, rfl, rfl, rfl, rfl, rfl, rfl, starting_cell _ _ _, starting_site _ _ _, get_zeros, get_zeros,
    Tbl.get_fill 0, rfl, rfl, rfl, rfl, rfl, rfl, rfl, rfl, rfl, rfl, rfl, rfl, fun i => ?_, rfl, rfl, rfl, rfl, rfl,
    rfl, starting_neighbour _ _ _, starting_filledEdges _ _ _, rfl, rfl, starting_port _ _ _, rfl,
    Tbl.get_fill Slot.empty, rfl, rfl, rfl, rfl⟩
  exact ⟨Tbl.get_fill 0 i, Tbl.get_fill 0 i, Tbl.get_fill false i, Tbl.get_fill false i, Tbl.get_fill 3 i⟩

/-! ## The invariants at reset -/

theorem codesSound_zeros : DriveFrame.zeros.codesSound :=
  ⟨fun n k => (get_zeros n k).trans_le (Nat.zero_le _), fun n k => (get_zeros n k).trans_le (Nat.zero_le _)⟩

theorem driveCodesSound_reset : DriveCodesSound State.reset := by
  refine ⟨codesSound_zeros, nofun, ?_⟩
  rintro kind f ⟨⟩
  exact codesSound_zeros

theorem quietOutsideRun_reset : QuietOutsideRun State.reset := by
  refine fun _ => ⟨fun p => ?_, rfl, fun _ => rfl⟩
  rw [State.reset, starting_port]
  exact ⟨rfl, rfl⟩

theorem tableSound_reset : TableSound State.reset := by
  refine ⟨quietOutsideRun_reset, Nat.zero_le 128, .nil, fun c => Or.inl ?_⟩
  rw [State.reset, starting_cell]
  rfl

theorem ownSparesMatchSites_reset : OwnSparesMatchSites State.reset := by
  have absent (site : Site) : (State.reset.site site).state = .absent := by
    rw [State.reset, starting_site]
    rfl
  refine ⟨fun c site => ?_, fun _ => ⟨absent, nofun⟩⟩
  rw [absent]
  exact ⟨nofun, nofun⟩

/-- Settles O60: the five invariants, each at the cleared values. -/
theorem invariantsHoldAtReset : Obligations.InvariantsHoldAtReset :=
  ⟨listsWithinCapacity_starting _ _ _, passSound_starting _ _ _, driveCodesSound_reset, tableSound_reset,
    ownSparesMatchSites_reset⟩

end Sys2Proof.Machine
end

section
/-! RESCAN, CLEAR_FLAGS and CLEAR_RETIRED carried out, and a request that is none of the nine commands (R39, R58, R79, R97, R180, R182, R183, R187). -/

namespace Sys2Proof.Machine

/-! ## A request handled and answered with one report (R182) -/

section Requests

variable {s : State} {rx : Rx} {tag code : Byte} {arguments : List Byte}

/-- A request with a tag that the port has not taken last is no repeat. -/
theorem handleRequest_new {p : PortId} (new : s.lastTag p ≠ some tag) : handleRequest p tag code arguments s =
    match readCommand code arguments with
    | none => (s.setLastTag p tag, [ackReport .badRequest])
    | some command => carryOut command (s.setLastTag p tag) := by
  unfold handleRequest
  exact if_neg (by simp [State.isRepeat, new])

/-- A request that is answered with one report, and leaves the answers that wait, leaves that report behind them. -/
theorem receiveRequest_answered (station : FromStation s rx) (short : arguments.length ≤ 38)
    (one : placesNeeded (readCommand code arguments) = 1) {t : State} {r : Report}
    (handled : handleRequest rx.port tag code arguments (updatePresence rx.src s) = (t, [r]))
    (kept : (t.port rx.port).answers = ((updatePresence rx.src s).port rx.port).answers)
    (room : ((updatePresence rx.src s).port rx.port).answers.length ≤ 3) :
    receiveRequest rx tag code arguments s = t.replied rx tag [r] := by
  have here : rx.dst = (updatePresence rx.src s).position := by rw [updatePresence_position, station.addressed]
  rw [receiveRequest_fromStation station _ _ _ short, serviceRequest_room station.station here _ _ _ (by omega),
    handled, List.foldl_cons, List.foldl_nil, answer_replied tag r (by rw [kept]; exact room)]

end Requests

/-! ## The state that CLEAR_RETIRED leaves (R170, R180) -/

section ClearRetired

variable {s : State}

theorem clearRetiredList_missing (h : s.store.state = .missing) : clearRetiredList s = s := by
  simp [clearRetiredList, State.storeMissing, h]

/-- The lists rebuilt from the remap table, with no RETIRED entry persisted (R180). -/
def State.listsRebuilt (s : State) : State :=
  { s with
    entries := s.entries.map fun e => e.withPersisted false
    store := { s.store with pendingWrites := [], rewrite := retiredCells s.entries } }

/-- With a store that is there the erase begins, waits for the write, or is the one in progress. -/
theorem clearRetiredList_present (h : s.store.state ≠ .missing) : clearRetiredList s =
    match s.store.state with
    | .writing => { s.listsRebuilt with store := { s.listsRebuilt.store with eraseWaits := true } }
    | .erasing => s.listsRebuilt
    | _ => beginErase s.listsRebuilt := by
  unfold clearRetiredList
  rw [if_neg (by simpa [State.storeMissing] using h)]
  rfl

theorem clearRetiredList_idle (h : s.store.state = .idle) : clearRetiredList s = beginErase s.listsRebuilt := by
  rw [clearRetiredList_present (by simp [h]), h]

theorem clearRetiredList_writing (h : s.store.state = .writing) :
    clearRetiredList s = { s.listsRebuilt with store := { s.listsRebuilt.store with eraseWaits := true } } := by
  rw [clearRetiredList_present (by simp [h]), h]

theorem clearRetiredList_erasing (h : s.store.state = .erasing) : clearRetiredList s = s.listsRebuilt := by
  rw [clearRetiredList_present (by simp [h]), h]

theorem clearRetiredList_ports : (clearRetiredList s).ports = s.ports := by
  unfold clearRetiredList
  split
  · rfl
  · dsimp only
    split <;> rfl

end ClearRetired

/-- Settles O50: each request is new, is read as its command, and leaves the answers that wait. -/
theorem actingRequestsCarriedOut : Obligations.ActingRequestsCarriedOut := by
  intro s rx tag station h g done emptied new room
  have answered {code : Byte} {arguments : List Byte} {command : ServiceCommand} (short : arguments.length ≤ 38)
      (read : readCommand code arguments = some command) (one : placesNeeded (some command) = 1) {t : State}
      (carried : carryOut command g = (t, [ackReport .done]))
      (kept : (t.port rx.port).answers = (h.port rx.port).answers) :
      (.next (receiveRequest rx tag code arguments s) : Host.Outcome State Fault Refusal) = .next (done t) := by
    refine congrArg _ (receiveRequest_answered station short (by rw [read, one]) ?_ kept room)
    rw [handleRequest_new new, read]
    exact carried
  have cleared {t : State} (he : clearRetiredList g = t) : exec (.clearRetired rx tag) s = .next (done t) := by
    refine answered (code := 8) (arguments := []) (by simp) rfl rfl (congrArg (·, [ackReport .done]) he) ?_
    rw [← he]
    exact congrArg (fun ports => (PerPort.get ports rx.port).answers) clearRetiredList_ports
  refine ⟨answered (by simp) rfl rfl rfl rfl, answered (by simp) rfl rfl rfl (rechooseAll_answers rx.port _ _ _),
    fun missing => cleared (clearRetiredList_missing missing), fun idle => cleared (clearRetiredList_idle idle),
    fun writing => cleared (clearRetiredList_writing writing),
    fun erasing => cleared (clearRetiredList_erasing erasing), fun command arguments short unknown => ?_⟩
  have handled : handleRequest rx.port tag command arguments h = (g, [ackReport .badRequest]) := by
    rw [handleRequest_new new, unknown]
  exact congrArg Host.Outcome.next
    (receiveRequest_answered station short (by rw [unknown]; rfl) handled rfl room)

end Sys2Proof.Machine
end

section
/-! Section restart (R150): what its steps 4 to 7 may change of the tables, with no neighbour PRESENT and so no notice sent, what they come to for each site and each remedy, and the refresh that fills the emptied queues (R40, R58, R79, R94, R97, R133, R143, R150, R151, R165, R181). -/

namespace Sys2Proof.Machine

/-! ## Folds that bring about a property of each item -/

/-- What a fold's step makes of its item, and every later step keeps, holds of every item at the end. -/
theorem foldl_establishes {α : Type} {I : State → Prop} {Q : α → State → Prop} {f : State → α → State}
    (stays : ∀ s b, I s → I (f s b)) (made : ∀ s a, I s → Q a (f s a))
    (kept : ∀ s a b, I s → Q a s → Q a (f s b)) (l : List α) (s : State) (h : I s) :
    ∀ a ∈ l, Q a (l.foldl f s) := by
  induction l generalizing s with
  | nil => nofun
  | cons b l ih =>
    refine List.forall_mem_cons.mpr ⟨?_, ih (f s b) (stays s b h)⟩
    have both := foldl_keeps (P := fun t => I t ∧ Q b t) (fun t c ht => ⟨stays t c ht.1, kept t b c ht.1 ht.2⟩) l
      (f s b) ⟨stays s b h, made s b h⟩
    exact both.2

/-! ## Changes of the tables alone -/

/-- The second state differs from the first in the remap table, the site table and the filled edge sets alone. -/
def OnlyTables (s t : State) : Prop := t = s.withTables t.entries t.sites t.seam.filledEdges

theorem OnlyTables.trans {s t u : State} (h : OnlyTables s t) (h' : OnlyTables t u) : OnlyTables s u := by
  unfold OnlyTables at *
  rw [h] at h'
  exact h'

theorem told_onlyTables (s : State) (c : Cell) (before after : Bool) : OnlyTables s (s.told false c before after) := by
  unfold State.told
  split
  · rfl
  · rw [if_pos rfl, markCell_eq]
    rfl

/-- Telling a change of the filled cells without lists changes no entry and no site. -/
theorem giveRemedy_onlyTables {s : State} {c : Cell} {r : Remedy} (quiet : ∀ u, beginClaim c r u = u) :
    OnlyTables s (giveRemedy false c r s) := by
  cases h : s.retiredEntry c with
  | none =>
    unfold giveRemedy
    rw [h]
    rfl
  | some e =>
    rw [giveRemedy_told h, quiet]
    exact OnlyTables.trans (t := s.writeRemedy c r) rfl (told_onlyTables _ _ _ _)

/-- A remedy that depends on no neighbour begins no claim. -/
theorem beginClaim_independent {r : Remedy} (h : r.dependsOn (fun _ => true) = false) (c : Cell) (u : State) :
    beginClaim c r u = u := by
  cases r with
  | asking => cases h
  | _ => rfl

/-! ## What the steps keep -/

/-- A site's state stands, or the site was FREE, HELD or LENT and is FREE or OWN. -/
def SiteState.Settles (old new : SiteState) : Prop :=
  new = old ∨ (old.dependsOn (fun _ => true) = true ∨ old = .free) ∧ (new = .free ∨ ∃ c, new = .own c)

theorem SiteState.Settles.trans {x y z : SiteState} (h : x.Settles y) (h' : y.Settles z) : x.Settles z := by
  obtain rfl | ⟨given, new⟩ := h
  · exact h'
  · obtain rfl | ⟨_, new'⟩ := h'
    · exact Or.inr ⟨given, new⟩
    · exact Or.inr ⟨given, new'⟩

/-- A site that depends on no neighbour goes on so. -/
theorem SiteState.Settles.independent {x y : SiteState} (h : x.Settles y) (hx : x.dependsOn (fun _ => true) = false) :
    y.dependsOn (fun _ => true) = false := by
  obtain rfl | ⟨_, rfl | ⟨c, rfl⟩⟩ := h
  · exact hx
  · rfl
  · rfl

/-- A site that is neither FREE nor depends on a neighbour stands. -/
theorem SiteState.Settles.stands {x y : SiteState} (h : x.Settles y) (hx : x.dependsOn (fun _ => true) = false)
    (notFree : x ≠ .free) : y = x := by
  obtain same | ⟨given | free, _⟩ := h
  · exact same
  · rw [hx] at given
    cases given
  · exact absurd free notFree

/-- What steps 4, 5 and 7 of a section restart leave: everything but the tables, each entry beside its remedy, each site beside its state, and the OWN_SPARE remedies. -/
structure Repairs (s t : State) : Prop where
  tables : OnlyTables s t
  beside : t.entries.map Entry.beside = s.entries.map Entry.beside
  sites : ∀ a, ∃ st, t.site a = { s.site a with state := st } ∧ (s.site a).state.Settles st
  spares : ∀ c site, s.remedyOf c = some (.ownSpare site) → t.remedyOf c = some (.ownSpare site)

theorem Repairs.refl (s : State) : Repairs s s := ⟨rfl, rfl, fun _ => ⟨_, rfl, Or.inl rfl⟩, fun _ _ h => h⟩

theorem Repairs.trans {s t u : State} (h : Repairs s t) (h' : Repairs t u) : Repairs s u where
  tables := h.tables.trans h'.tables
  beside := h'.beside.trans h.beside
  sites a := by
    obtain ⟨st, e, settles⟩ := h.sites a
    obtain ⟨st', e', settles'⟩ := h'.sites a
    rw [e] at e' settles'
    exact ⟨st', e', settles.trans settles'⟩
  spares c site own := h'.spares c site (h.spares c site own)

theorem Repairs.settles {s t : State} (h : Repairs s t) (a : Site) : (s.site a).state.Settles (t.site a).state := by
  obtain ⟨st, e, settles⟩ := h.sites a
  rw [e]
  exact settles

@[simp] theorem withRemedy_beside (e : Entry) (r : Remedy) : (e.withRemedy r).beside = e.beside := by
  obtain ⟨c, o, body⟩ := e
  cases body <;> rfl

theorem beside_cell (e : Entry) : e.beside.cell = e.cell := by
  obtain ⟨c, o, body⟩ := e
  cases body <;> rfl

/-- Entries that are the same beside their remedies are of the same cells. -/
theorem Repairs.cells {s t : State} (h : Repairs s t) : t.entries.map Entry.cell = s.entries.map Entry.cell := by
  have beside := congrArg (List.map Entry.cell) h.beside
  simpa [Function.comp_def, beside_cell] using beside

theorem beside_kept (entries : List Entry) : RemedyKept fun t => t.entries.map Entry.beside = entries where
  enqueue p n t h := by rw [(enqueue_onlySends p n t).entries]; exact h
  remedy c r t h := by
    rw [← h]
    simp only [setEntries_entries, changeEntry, List.map_map]
    refine List.map_congr_left fun e _ => ?_
    simp only [Function.comp_apply]
    split <;> simp
  site _ _ _ h := h
  mark _ _ _ _ h := h

section Steps

variable {s : State} {c : Cell}

/-- A remedy given without lists that begins no claim, to a cell that is not in OWN_SPARE. -/
theorem repairs_giveRemedy {r : Remedy} (independent : r.dependsOn (fun _ => true) = false)
    (other : ∀ site, s.remedyOf c ≠ some (.ownSpare site)) : Repairs s (giveRemedy false c r s) where
  tables := giveRemedy_onlyTables (beginClaim_independent independent c)
  beside := (beside_kept _).giveRemedy _ _ _ _ rfl
  sites a := ⟨(s.site a).state, by rw [site_giveRemedy], Or.inl rfl⟩
  spares d site own := by
    rw [remedyOf_giveRemedy, if_neg]
    · exact own
    · rintro ⟨rfl, _⟩
      exact other site own

theorem repairs_setSiteState {a : Site} {st : SiteState} (settles : (s.site a).state.Settles st) :
    Repairs s (s.setSiteState a st) where
  tables := rfl
  beside := rfl
  sites b := by
    rw [site_setSiteState]
    by_cases h : a = b
    · subst h
      exact ⟨st, if_pos rfl, settles⟩
    · exact ⟨(s.site b).state, if_neg h, Or.inl rfl⟩
  spares _ _ own := own

/-- A site of a neighbour freed and offered (R87, R94). -/
theorem repairs_freeSite {a : Site} (given : (s.site a).state.dependsOn (fun _ => true) = true) :
    Repairs s (freeSite false a s) := by
  have freed : Repairs s (s.setSiteState a .free) := repairs_setSiteState (Or.inr ⟨Or.inl given, Or.inl rfl⟩)
  have unfolded : freeSite false a s =
      match s.waiter a with
      | none => s.setSiteState a .free
      | some c => giveRemedy false c (.ownSpare a) ((s.setSiteState a .free).setSiteState a (.own c)) := rfl
  rw [unfolded]
  cases h : s.waiter a with
  | none => exact freed
  | some c =>
    have waits : s.remedyOf c = some (.fill .quadBusy) := by simpa using List.find?_some h
    refine freed.trans ((repairs_setSiteState (Or.inr ⟨Or.inr ?_, Or.inr ⟨c, rfl⟩⟩)).trans
      (repairs_giveRemedy rfl fun site own => ?_))
    · rw [site_setSiteState_same]
    · have : s.remedyOf c = some (.ownSpare site) := own
      rw [waits] at this
      cases this

theorem repairs_freeIfLost (a : Site) : Repairs s (freeIfLost false (fun _ => true) s a) := by
  unfold freeIfLost
  split
  · rename_i given
    exact repairs_freeSite given
  · exact Repairs.refl s

/-- An entry whose owner is lost (R133). -/
theorem repairs_dropIfLost (c : Cell) : Repairs s (dropIfLost false (fun _ => true) s c) := by
  unfold dropIfLost
  split
  · rename_i lost
    refine repairs_giveRemedy rfl fun site own => ?_
    rw [own] at lost
    cases lost
  · exact Repairs.refl s

end Steps

/-! ## The choice made anew with no neighbour PRESENT (R73, R74, R79) -/

/-- No neighbour is PRESENT. -/
def State.NoPresent (s : State) : Prop := ∀ d nb, s.neighbour d = some nb → nb.presence ≠ .present

/-- The remedy that the choice gives a cell (R72 to R74). -/
def State.choice (s : State) (c : Cell) : Remedy :=
  match c.home with
  | .own site => if (s.site site).state = .free then .ownSpare site else .fill (busyReason (s.site site).state)
  | .foreign owner site => claimTests owner site s

/-- The state with a cell's home site taken when it is an own one and FREE (R85). -/
def State.homeTaken (s : State) (c : Cell) : State :=
  match c.home with
  | .own site => if (s.site site).state = .free then s.setSiteState site (.own c) else s
  | .foreign _ _ => s

/-- Why a cell whose home is another tile's is filled when no neighbour is PRESENT (R74). -/
def State.absenceReason (s : State) (owner : OwnerDir) : FillReason :=
  if s.neighbour owner.toDir = none then .noNeighbour
  else if s.cfg.lending = false then .lendingOff
  else .ownerSilent

section Choice

variable {s : State} {c : Cell}

theorem chooseRemedy_choice {e : Entry} (h : s.retiredEntry c = some e) (announce : Bool) :
    chooseRemedy announce c s = giveRemedy announce c (s.choice c) (s.homeTaken c) := by
  unfold chooseRemedy State.choice State.homeTaken
  rw [h]
  cases c.home with
  | own site => by_cases free : (s.site site).state = .free <;> simp only [free, if_true, if_false]
  | foreign owner site => rfl

theorem homeTaken_entries : (s.homeTaken c).entries = s.entries := by
  unfold State.homeTaken
  split
  · split <;> rfl
  · rfl

theorem homeTaken_remedyOf (d : Cell) : (s.homeTaken c).remedyOf d = s.remedyOf d := by
  unfold State.remedyOf State.entryOf
  rw [homeTaken_entries]

theorem homeTaken_retiredEntry (d : Cell) : (s.homeTaken c).retiredEntry d = s.retiredEntry d := by
  unfold State.retiredEntry State.entryOf
  rw [homeTaken_entries]

/-- The remedies after a choice (R71). -/
theorem remedyOf_chooseRemedy {r : Remedy} (h : s.remedyOf c = some r) (announce : Bool) (d : Cell) :
    (chooseRemedy announce c s).remedyOf d = if c = d then some (s.choice c) else s.remedyOf d := by
  obtain ⟨e, he, _⟩ := retiredEntry_of_remedyOf h
  rw [chooseRemedy_choice he, remedyOf_giveRemedy, homeTaken_retiredEntry, homeTaken_remedyOf, he]
  simp

theorem claimTests_noPresent (h : s.NoPresent) (owner : OwnerDir) (site : Site) :
    claimTests owner site s = .fill (s.absenceReason owner) := by
  unfold claimTests State.absenceReason
  cases hn : s.neighbour owner.toDir with
  | none => rfl
  | some nb => cases s.cfg.lending <;> simp [h _ _ hn]

/-- With no neighbour PRESENT no choice depends on one. -/
theorem choice_independent (h : s.NoPresent) (c : Cell) : (s.choice c).dependsOn (fun _ => true) = false := by
  unfold State.choice
  split
  · split <;> rfl
  · rw [claimTests_noPresent h]
    rfl

theorem repairs_homeTaken (c : Cell) : Repairs s (s.homeTaken c) := by
  unfold State.homeTaken
  split
  · split
    · rename_i free
      exact repairs_setSiteState (Or.inr ⟨Or.inr free, Or.inr ⟨c, rfl⟩⟩)
    · exact Repairs.refl s
  · exact Repairs.refl s

theorem OnlyTables.noPresent {t : State} (h : OnlyTables s t) (none : s.NoPresent) : t.NoPresent := by
  rw [h]
  exact none

theorem OnlyTables.absenceReason {t : State} (h : OnlyTables s t) (owner : OwnerDir) :
    t.absenceReason owner = s.absenceReason owner := by
  rw [h]
  rfl

/-- A cell's choice made anew is a choice when its remedy is FILL. -/
theorem rechoose_fill {reason : FillReason} (h : s.remedyOf c = some (.fill reason)) :
    rechoose false callsForChoice s c = chooseRemedy false c s := by
  unfold rechoose
  rw [h]
  rfl

theorem rechoose_other (h : ∀ reason, s.remedyOf c ≠ some (.fill reason)) :
    rechoose false callsForChoice s c = s := by
  rw [rechoose_chosenAnew]
  unfold State.chosenAnew
  split
  · rename_i reason e
    exact absurd e (h reason)
  · rfl

/-- Making one cell's choice anew leaves every other cell's remedy. -/
theorem remedyOf_rechoose_other {d : Cell} (h : c ≠ d) :
    (rechoose false callsForChoice s c).remedyOf d = s.remedyOf d := by
  by_cases fill : ∃ reason, s.remedyOf c = some (.fill reason)
  · obtain ⟨reason, hr⟩ := fill
    rw [rechoose_fill hr, remedyOf_chooseRemedy hr, if_neg h]
  · rw [rechoose_other (not_exists.mp fill)]

theorem repairs_rechoose (none : s.NoPresent) (c : Cell) : Repairs s (rechoose false callsForChoice s c) := by
  by_cases fill : ∃ reason, s.remedyOf c = some (.fill reason)
  · obtain ⟨reason, hr⟩ := fill
    obtain ⟨e, he, _⟩ := retiredEntry_of_remedyOf hr
    rw [rechoose_fill hr, chooseRemedy_choice he]
    refine (repairs_homeTaken c).trans (repairs_giveRemedy (choice_independent none c) fun site own => ?_)
    rw [homeTaken_remedyOf, hr] at own
    cases own
  · rw [rechoose_other (not_exists.mp fill)]
    exact Repairs.refl s

end Choice

/-! ## The steps over the whole tables (R94, R133, R79) -/

theorem mem_cells_of_remedyOf {s : State} {c : Cell} {r : Remedy} (h : s.remedyOf c = some r) :
    c ∈ s.entries.map Entry.cell := by
  obtain ⟨e, he, _⟩ := Option.bind_eq_some_iff.mp h
  exact List.mem_map.mpr ⟨e, entryOf_mem s he, entryOf_cell s he⟩

/-- A cell's remedy, when it has one, depends on no neighbour. -/
def State.Independent (s : State) (c : Cell) : Prop :=
  ∀ r, s.remedyOf c = some r → r.dependsOn (fun _ => true) = false

/-- A cell has a remedy, and it is not an own spare. -/
def State.Repairable (s : State) (c : Cell) : Prop :=
  ∃ r, s.remedyOf c = some r ∧ ∀ own, r ≠ .ownSpare own

section Whole

variable {s : State}

theorem repairs_freeLost (s : State) : Repairs s (freeLost false (fun _ => true) s) :=
  foldl_keeps (fun _ a h => h.trans (repairs_freeIfLost a)) _ _ (Repairs.refl s)

/-- No site is LENT or HELD any more (R94). -/
theorem freeLost_independent (s : State) (a : Site) :
    ((freeLost false (fun _ => true) s).site a).state.dependsOn (fun _ => true) = false := by
  refine foldl_establishes (I := fun _ => True)
    (Q := fun a t => (t.site a).state.dependsOn (fun _ => true) = false) (f := freeIfLost false fun _ => true)
    (fun _ _ _ => trivial) (fun t a _ => ?_) (fun t a b _ h => ((repairs_freeIfLost b).settles a).independent h)
    allSites s trivial a (mem_allSites a)
  unfold freeIfLost
  split
  · rw [site_freeSite, if_pos rfl]
    cases t.waiter a <;> rfl
  · rename_i free
    simpa using free

theorem ofInts_some {x y : Int} {c : Cell} (h : Cell.ofInts x y = some c) : (c.x.val : Int) = x ∧ (c.y.val : Int) = y := by
  unfold Cell.ofInts at h
  split at h
  · obtain rfl := Option.some.inj h
    dsimp only
    omega
  · cases h

/-- Only cells whose home is the site lie in its quad (R4, R5). -/
theorem home_of_mem_quadCells {site : Site} {c : Cell} (h : c ∈ site.quadCells) : c.home = .own site := by
  obtain ⟨⟨i, hi⟩, ⟨j, hj⟩⟩ := site
  have near : ((c.x.val : Int) = 2 * i ∨ (c.x.val : Int) = 2 * i - 1) ∧
      ((c.y.val : Int) = 2 * j ∨ (c.y.val : Int) = 2 * j - 1) := by
    simp only [Site.quadCells, List.mem_filterMap, List.mem_cons, List.not_mem_nil, or_false, id] at h
    obtain ⟨_, rfl | rfl | rfl | rfl, inside⟩ := h <;> have := ofInts_some inside <;> omega
  have column : (c.x.val + 1) / 2 % 16 = i := by omega
  have row : (c.y.val + 1) / 2 % 16 = j := by omega
  have notEast : ¬ c.x.val = 31 := by omega
  have notSouth : ¬ c.y.val = 31 := by omega
  simp only [Cell.home, column, row, if_neg notEast, if_neg notSouth]

/-- A cell whose home is another tile's waits for no own site. -/
theorem repairable_freeIfLost {c : Cell} {owner : OwnerDir} {site : Site} (home : c.home = .foreign owner site)
    (t : State) (a : Site) (h : t.Repairable c) : (freeIfLost false (fun _ => true) t a).Repairable c := by
  unfold freeIfLost
  split
  · obtain ⟨r, hr, other⟩ := h
    refine ⟨r, ?_, other⟩
    rw [remedyOf_freeSite, if_neg]
    · exact hr
    · intro waits
      cases home.symm.trans (home_of_mem_quadCells (List.mem_of_find?_eq_some waits))
  · exact h

theorem repairs_dropLost (s : State) : Repairs s (dropLost false (fun _ => true) s) :=
  foldl_keeps (fun _ c h => h.trans (repairs_dropIfLost c)) _ _ (Repairs.refl s)

/-- What one lost owner leaves of a cell's remedy: it stands, or is FILL(OWNER_SILENT). -/
theorem remedyOf_dropIfLost (t : State) (c d : Cell) :
    (dropIfLost false (fun _ => true) t c).remedyOf d = t.remedyOf d ∨
      (dropIfLost false (fun _ => true) t c).remedyOf d = some (.fill .ownerSilent) := by
  unfold dropIfLost
  split
  · rw [remedyOf_giveRemedy]
    split
    · exact Or.inr rfl
    · exact Or.inl rfl
  · exact Or.inl rfl

/-- No remedy is a LOAN or ASKING any more (R133). -/
theorem dropLost_independent (s : State) (c : Cell) : (dropLost false (fun _ => true) s).Independent c := by
  intro r hr
  have listed : c ∈ s.entries.map Entry.cell := (repairs_dropLost s).cells ▸ mem_cells_of_remedyOf hr
  refine foldl_establishes (I := fun _ => True) (Q := fun c t => t.Independent c)
    (f := dropIfLost false fun _ => true) (fun _ _ _ => trivial) (fun t c _ r hr => ?_) (fun t c d _ h r hr => ?_)
    _ s trivial c listed r hr
  · unfold dropIfLost at hr
    split at hr
    · rename_i lost
      obtain ⟨old, ho, _⟩ := (Option.any_eq_true _ _).mp lost
      obtain ⟨e, he, _⟩ := retiredEntry_of_remedyOf ho
      rw [remedyOf_giveRemedy, if_pos ⟨rfl, by rw [he]; rfl⟩] at hr
      obtain rfl := Option.some.inj hr
      rfl
    · rename_i keeps
      simpa [hr] using keeps
  · obtain same | filled := remedyOf_dropIfLost t d c
    · exact h r (same ▸ hr)
    · rw [filled] at hr
      obtain rfl := Option.some.inj hr
      rfl

theorem repairable_dropIfLost {c : Cell} (t : State) (d : Cell) (h : t.Repairable c) :
    (dropIfLost false (fun _ => true) t d).Repairable c := by
  obtain ⟨r, hr, other⟩ := h
  obtain same | filled := remedyOf_dropIfLost t d c
  · exact ⟨r, same.trans hr, other⟩
  · exact ⟨_, filled, nofun⟩

/-- The choices made anew keep what a single one keeps. -/
theorem repairs_rechooseAll (none : s.NoPresent) : Repairs s (rechooseAll false callsForChoice s) :=
  foldl_keeps (fun _ c h => h.trans (repairs_rechoose (h.tables.noPresent none) c)) _ _ (Repairs.refl s)

theorem rechooseAll_independent (none : s.NoPresent) {c : Cell} (h : s.Independent c) :
    (rechooseAll false callsForChoice s).Independent c := by
  refine (foldl_keeps (P := fun t => t.NoPresent ∧ t.Independent c) (fun t d ⟨none, h⟩ => ?_) _ s ⟨none, h⟩).2
  refine ⟨(repairs_rechoose none d).tables.noPresent none, fun r hr => ?_⟩
  by_cases same : d = c
  · subst same
    by_cases fill : ∃ reason, t.remedyOf d = some (.fill reason)
    · obtain ⟨reason, was⟩ := fill
      rw [rechoose_fill was, remedyOf_chooseRemedy was, if_pos rfl] at hr
      obtain rfl := Option.some.inj hr
      exact choice_independent none d
    · rw [rechoose_other (not_exists.mp fill)] at hr
      exact h r hr
  · rw [remedyOf_rechoose_other same] at hr
    exact h r hr

/-- A filled cell whose home is another tile's is filled for the reason that the neighbour table gives (R74, R79). -/
theorem rechooseAll_foreign (none : s.NoPresent) {c : Cell} {owner : OwnerDir} {site : Site}
    (home : c.home = .foreign owner site) {reason : FillReason} (h : s.remedyOf c = some (.fill reason)) :
    (rechooseAll false callsForChoice s).remedyOf c = some (.fill (s.absenceReason owner)) := by
  have chosen {t : State} (only : OnlyTables s t) {why : FillReason} (was : t.remedyOf c = some (.fill why)) :
      (rechoose false callsForChoice t c).remedyOf c = some (.fill (s.absenceReason owner)) := by
    rw [rechoose_fill was, remedyOf_chooseRemedy was, if_pos rfl, State.choice, home]
    dsimp only
    rw [claimTests_noPresent (only.noPresent none), only.absenceReason]
  refine foldl_establishes (I := fun t => OnlyTables s t ∧ ∃ why, t.remedyOf c = some (.fill why))
    (Q := fun d t => d = c → t.remedyOf c = some (.fill (s.absenceReason owner)))
    (f := rechoose false callsForChoice) (fun t d ⟨only, why, was⟩ => ?_) (fun t d ⟨only, why, was⟩ same => ?_)
    (fun t d b ⟨only, why, was⟩ is same => ?_) _ s ⟨rfl, reason, h⟩ c (mem_cells_of_remedyOf h) rfl
  · refine ⟨only.trans (repairs_rechoose (only.noPresent none) d).tables, ?_⟩
    by_cases same : d = c
    · subst same
      exact ⟨_, chosen only was⟩
    · exact ⟨why, (remedyOf_rechoose_other same).trans was⟩
  · subst same
    exact chosen only was
  · by_cases here : b = c
    · subst here
      exact chosen only was
    · rw [remedyOf_rechoose_other here]
      exact is same

end Whole

end Sys2Proof.Machine
end

section
/-! The section restart put together: the refresh into the emptied queues, the state that the restart leaves, and its nine steps (R143, R150, R151, R161, R162, R165, R181). -/

namespace Sys2Proof.Machine

/-! ## Lists sent into emptied queues (R143, R161) -/

/-- A list that finds room changes its port's notice queue alone, by one notice at most. -/
theorem enqueue_room {p : PortId} {n : Notice} {s : State} (list : isAnswer n.body = false)
    (room : (s.port p).notices.length < 12) :
    ∃ notices, enqueue p n s = s.setPort p { s.port p with notices := notices } ∧
      notices.length ≤ (s.port p).notices.length + 1 := by
  cases waiting : replaceWaiting n (s.port p).notices with
  | some queue =>
    obtain ⟨ahead, old, behind, was, rfl, _, _⟩ := replaceWaiting_some waiting
    exact ⟨_, enqueue_replacing list waiting, by simp [was]⟩
  | none => exact ⟨_, enqueue_notice list waiting room, by simp⟩

/-- The second state is the first with no more than so many notices in each notice queue. -/
structure Sent (most : Nat) (s t : State) : Prop where
  only : OnlySends s t
  flags : t.flags = s.flags
  port : ∀ p, ∃ notices, t.port p = { s.port p with notices := notices } ∧ notices.length ≤ most

theorem Sent.start {s : State} (emptied : ∀ p, (s.port p).notices = []) : Sent 0 s s :=
  ⟨rfl, rfl, fun p => ⟨(s.port p).notices, rfl, by simp [emptied p]⟩⟩

/-- One more list sent while there is room. -/
theorem Sent.sendTo {most : Nat} {s t : State} (h : Sent most s t) (room : most < 12) (d : Dir) {body : NoticeBody}
    (list : isAnswer body = false) : Sent (most + 1) s (sendTo d body t) := by
  cases hn : t.neighbour d with
  | none =>
    rw [sendTo_none hn]
    refine ⟨h.only, h.flags, fun p => ?_⟩
    obtain ⟨notices, port, short⟩ := h.port p
    exact ⟨notices, port, by omega⟩
  | some nb =>
    have only := h.only.trans (sendTo_onlySends d body t)
    rw [sendTo_some hn] at only ⊢
    obtain ⟨waiting, was, short⟩ := h.port (t.position.portTo nb.position)
    have length : (t.port (t.position.portTo nb.position)).notices.length ≤ most := by rw [was]; exact short
    obtain ⟨notices, sent, longer⟩ := enqueue_room (n := ⟨t.position, nb.position, body⟩) list
      (lt_of_le_of_lt length room)
    rw [sent] at only ⊢
    refine ⟨only, h.flags, fun p => ?_⟩
    rw [port_setPort]
    split
    · rename_i here
      subst here
      exact ⟨notices, by rw [was], by omega⟩
    · obtain ⟨others, port, few⟩ := h.port p
      exact ⟨others, port, by omega⟩

/-- The ten lists of a refresh find room in emptied queues. -/
theorem listsSent_sent {s : State} (emptied : ∀ p, (s.port p).notices = []) : Sent 10 s s.listsSent := by
  have step {most : Nat} {t : State} (room : most < 12) (d : Dir) {body : NoticeBody} (list : isAnswer body = false)
      (h : Sent most s t) : Sent (most + 1) s (sendTo d body t) := h.sendTo room d list
  unfold State.listsSent
  refine step (by decide) _ rfl (step (by decide) _ rfl (step (by decide) _ rfl (step (by decide) _ rfl
    (step (by decide) _ rfl ?_))))
  exact step (by decide) _ rfl (step (by decide) _ rfl (step (by decide) _ rfl (step (by decide) _ rfl
    (step (by decide) _ rfl (Sent.start emptied)))))

/-! ## The steps of a section restart (R150) -/

section Restart

variable (s : State)

/-- A neighbour table entry of which nothing has been heard since the restart (R150). -/
def Neighbour.forgotten (nb : Neighbour) : Neighbour := ⟨nb.position, .unheard, none⟩

/-- Steps 1 to 3 and 6 outside the tables. -/
theorem restartEvidence_restartSeam : restartEvidence (restartSeam s) = { s with
    ports := s.ports.map Port.restarted
    cells := s.cells.map CellRecord.evidenceCleared
    sites := s.sites.map SiteRecord.evidenceCleared
    seam := { s.seam with
      neighbours := s.seam.neighbours.map (Option.map Neighbour.forgotten), foreignFills := [] }
    supply := { s.supply with countdown := s.cfg.settleFrames }
    probe := s.probe.restarted } := rfl

@[simp] theorem restartEvidence_entries : (restartEvidence s).entries = s.entries := rfl
@[simp] theorem restartEvidence_remedyOf (c : Cell) : (restartEvidence s).remedyOf c = s.remedyOf c := rfl
@[simp] theorem restartEvidence_absenceReason (owner : OwnerDir) :
    (restartEvidence s).absenceReason owner = s.absenceReason owner := rfl
@[simp] theorem restartEvidence_site (a : Site) : (restartEvidence s).site a = (s.site a).evidenceCleared :=
  Tbl.get_map _ _ _

/-- The tables after steps 1 to 5: the view of the neighbours gone, their loans, holds and claims withdrawn. -/
def State.restartDropped : State :=
  dropLost false (fun _ => true) (freeLost false (fun _ => true) (restartSeam s))

/-- The tables after steps 1 to 7: the evidence cleared and every FILL remedy chosen anew. -/
def State.restartChosen : State := rechooseAll false callsForChoice (restartEvidence s.restartDropped)

theorem restartSeam_neighbour (d : Dir) :
    (restartSeam s).neighbour d = (s.neighbour d).map Neighbour.forgotten :=
  PerDir.get_map _ _ d

theorem restartSeam_absenceReason (owner : OwnerDir) :
    (restartSeam s).absenceReason owner = s.absenceReason owner := by
  unfold State.absenceReason
  simp only [restartSeam_neighbour, Option.map_eq_none_iff]
  rfl

theorem restartSeam_noPresent : (restartSeam s).NoPresent := by
  intro d nb h
  rw [restartSeam_neighbour] at h
  obtain ⟨_, _, rfl⟩ := Option.map_eq_some_iff.mp h
  nofun

theorem restartDropped_repairs : Repairs (restartSeam s) s.restartDropped :=
  (repairs_freeLost _).trans (repairs_dropLost _)

/-- No site depends on a neighbour any more (R94). -/
theorem restartDropped_site (a : Site) : (s.restartDropped.site a).state.dependsOn (fun _ => true) = false :=
  ((repairs_dropLost _).settles a).independent (freeLost_independent (restartSeam s) a)

/-- No remedy depends on a neighbour any more (R133). -/
theorem restartDropped_independent (c : Cell) : s.restartDropped.Independent c := dropLost_independent _ c

theorem restartEvidence_onlyTables {s t : State} (h : OnlyTables s t) :
    OnlyTables (restartEvidence s) (restartEvidence t) := by
  rw [h]
  rfl

theorem restartEvidence_noPresent : (restartEvidence s.restartDropped).NoPresent :=
  (restartEvidence_onlyTables (restartDropped_repairs s).tables).noPresent (restartSeam_noPresent s)

theorem restartChosen_repairs : Repairs (restartEvidence s.restartDropped) s.restartChosen :=
  repairs_rechooseAll (restartEvidence_noPresent s)

/-- Outside the remap table, the site table and the filled edge sets steps 4, 5 and 7 change nothing. -/
theorem restartChosen_onlyTables : OnlyTables (restartEvidence (restartSeam s)) s.restartChosen :=
  (restartEvidence_onlyTables (restartDropped_repairs s).tables).trans (restartChosen_repairs s).tables

theorem restartChosen_port (p : PortId) : s.restartChosen.port p = (s.port p).restarted := by
  rw [restartChosen_onlyTables s]
  exact PerPort.get_map _ _ p

theorem restartChosen_sent : Sent 10 s.restartChosen s.restartChosen.listsSent :=
  listsSent_sent fun p => by rw [restartChosen_port]; rfl

/-- The refresh timer restarted (R143). -/
def State.refreshRestarted : State := { s with seam := { s.seam with refreshTimer := some 0 } }

@[simp] theorem refreshRestarted_flags : s.refreshRestarted.flags = s.flags := rfl
@[simp] theorem refreshRestarted_entries : s.refreshRestarted.entries = s.entries := rfl
@[simp] theorem refreshRestarted_remedyOf (c : Cell) : s.refreshRestarted.remedyOf c = s.remedyOf c := rfl
@[simp] theorem refreshRestarted_site (a : Site) : s.refreshRestarted.site a = s.site a := rfl
@[simp] theorem refreshRestarted_port (p : PortId) : s.refreshRestarted.port p = s.port p := rfl

theorem sectionRestart_eq : sectionRestart s = s.restartChosen.listsSent.refreshRestarted := by
  refine (refresh_listsSent s.restartChosen).trans ?_
  rw [← (restartChosen_sent s).only.seam]
  rfl

/-! ## The state that a section restart leaves -/

/-- All that a section restart leaves but the tables, the ports and the flags (R40, R58, R143, R150, R181). -/
theorem sectionRestart_frame : ∃ entries sites filled ports flags, sectionRestart s = { s with
    entries := entries, sites := sites, ports := ports, flags := flags
    cells := s.cells.map CellRecord.evidenceCleared
    seam := { neighbours := s.seam.neighbours.map (Option.map Neighbour.forgotten), filledEdges := filled
              foreignFills := [], refreshTimer := some 0 }
    supply := { s.supply with countdown := s.cfg.settleFrames }
    probe := s.probe.restarted } := by
  obtain ⟨entries, sites, filled, chosen⟩ : ∃ entries sites filled,
      s.restartChosen = (restartEvidence (restartSeam s)).withTables entries sites filled :=
    ⟨_, _, _, restartChosen_onlyTables s⟩
  obtain ⟨ports, flags, sent⟩ : ∃ ports flags,
      s.restartChosen.listsSent = { s.restartChosen with ports := ports, flags := flags } :=
    ⟨_, _, (restartChosen_sent s).only⟩
  exact ⟨entries, sites, filled, ports, flags, by
    rw [sectionRestart_eq, sent, chosen, restartEvidence_restartSeam]
    rfl⟩

theorem sectionRestart_entries : (sectionRestart s).entries = s.restartChosen.entries := by
  rw [sectionRestart_eq, refreshRestarted_entries]
  exact (restartChosen_sent s).only.entries

theorem sectionRestart_remedyOf (c : Cell) : (sectionRestart s).remedyOf c = s.restartChosen.remedyOf c := by
  rw [sectionRestart_eq, refreshRestarted_remedyOf]
  exact (restartChosen_sent s).only.remedyOf c

theorem sectionRestart_site (a : Site) : (sectionRestart s).site a = s.restartChosen.site a := by
  rw [sectionRestart_eq, refreshRestarted_site]
  exact (restartChosen_sent s).only.site a

/-- Every sticky flag stands: no list finds a full queue. -/
theorem sectionRestart_flags : (sectionRestart s).flags = s.flags := by
  rw [sectionRestart_eq, refreshRestarted_flags, (restartChosen_sent s).flags, restartChosen_onlyTables s]
  rfl

theorem sectionRestart_port (p : PortId) :
    ∃ notices, (sectionRestart s).port p = { (s.port p).restarted with notices := notices } := by
  obtain ⟨notices, port, _⟩ := (restartChosen_sent s).port p
  rw [restartChosen_port] at port
  exact ⟨notices, by rw [sectionRestart_eq, refreshRestarted_port, port]⟩

theorem sectionRestart_beside :
    (sectionRestart s).entries.map Entry.beside = s.entries.map Entry.beside := by
  rw [sectionRestart_entries, (restartChosen_repairs s).beside, restartEvidence_entries,
    (restartDropped_repairs s).beside]
  rfl

theorem sectionRestart_cells : (sectionRestart s).entries.map Entry.cell = s.entries.map Entry.cell := by
  rw [sectionRestart_entries, (restartChosen_repairs s).cells, restartEvidence_entries,
    (restartDropped_repairs s).cells]
  rfl

/-- A site after a section restart: its evidence cleared, proven as it was, its state settled (R94, R97). -/
theorem sectionRestart_site_eq (a : Site) : ∃ st,
    (sectionRestart s).site a = { (s.site a).evidenceCleared with state := st } ∧ (s.site a).state.Settles st ∧
      st.dependsOn (fun _ => true) = false := by
  obtain ⟨dropped, was, before⟩ := (restartDropped_repairs s).sites a
  obtain ⟨chosen, is, after⟩ := (restartChosen_repairs s).sites a
  rw [restartEvidence_site, was] at is after
  refine ⟨chosen, by rw [sectionRestart_site, is]; rfl, before.trans after, after.independent ?_⟩
  have withdrawn := restartDropped_site s a
  rw [was] at withdrawn
  exact withdrawn

/-- A site that neither was FREE nor depended on a neighbour keeps its state. -/
theorem sectionRestart_site_stands {a : Site} (independent : (s.site a).state.dependsOn (fun _ => true) = false)
    (notFree : (s.site a).state ≠ .free) : ((sectionRestart s).site a).state = (s.site a).state := by
  obtain ⟨st, is, settles, _⟩ := sectionRestart_site_eq s a
  rw [is]
  exact settles.stands independent notFree

theorem sectionRestart_independent (c : Cell) : (sectionRestart s).Independent c := by
  intro r hr
  rw [sectionRestart_remedyOf] at hr
  refine rechooseAll_independent (restartEvidence_noPresent s) (fun r hr => ?_) r hr
  rw [restartEvidence_remedyOf] at hr
  exact restartDropped_independent s c r hr

theorem sectionRestart_spare {c : Cell} {site : Site} (own : s.remedyOf c = some (.ownSpare site)) :
    (sectionRestart s).remedyOf c = some (.ownSpare site) := by
  rw [sectionRestart_remedyOf]
  refine (restartChosen_repairs s).spares c site ?_
  rw [restartEvidence_remedyOf]
  exact (restartDropped_repairs s).spares c site own

/-- A cell whose home is another tile's is filled, for the reason that its neighbour table entry gives (R74, R79, R133). -/
theorem sectionRestart_foreign {c : Cell} {owner : OwnerDir} {site : Site} (home : c.home = .foreign owner site)
    (repairable : s.Repairable c) : (sectionRestart s).remedyOf c = some (.fill (s.absenceReason owner)) := by
  have freed : (freeLost false (fun _ => true) (restartSeam s)).Repairable c :=
    foldl_keeps (repairable_freeIfLost home) _ _ repairable
  have dropped : s.restartDropped.Repairable c :=
    foldl_keeps (fun t d => repairable_dropIfLost t d) _ _ freed
  obtain ⟨r, hr, notSpare⟩ := dropped
  have reason : (restartEvidence s.restartDropped).absenceReason owner = s.absenceReason owner := by
    rw [restartEvidence_absenceReason, (restartDropped_repairs s).tables.absenceReason, restartSeam_absenceReason]
  rw [sectionRestart_remedyOf, ← reason]
  cases r with
  | fill why =>
    rw [← restartEvidence_remedyOf] at hr
    exact rechooseAll_foreign (restartEvidence_noPresent s) home hr
  | ownSpare own => exact absurd rfl (notSpare own)
  | loan | asking => exact Bool.noConfusion (restartDropped_independent s c _ hr)

/-! ## The steps in the words of the statement -/

theorem restartDropped_folds : s.restartDropped =
    (s.entries.map Entry.cell).foldl (fun t c => t.ownerLost false (fun _ => true) c)
      ((s.sitesThat fun _ state => state.givenTo fun _ => true).foldl State.offeredQuietly (restartSeam s)) := by
  have each : dropIfLost false (fun _ => true) = fun t c => t.ownerLost false (fun _ => true) c :=
    funext fun t => funext fun c => dropIfLost_ownerLost false _ t c
  unfold State.restartDropped dropLost
  rw [each, (repairs_freeLost (restartSeam s)).cells, freeLost_offeredQuietly]
  rfl

theorem restartChosen_folds : s.restartChosen =
    (s.entries.map Entry.cell).foldl State.chosenAnew (restartEvidence s.restartDropped) := by
  have each : rechoose false callsForChoice = State.chosenAnew :=
    funext fun t => funext fun c => rechoose_chosenAnew t c
  unfold State.restartChosen rechooseAll
  rw [each, restartEvidence_entries, (restartDropped_repairs s).cells]
  rfl

/-- Step 6: the records, the pass and the countdown are those that the restart leaves. -/
theorem restartEvidence_dropped : restartEvidence s.restartDropped = { s.restartDropped with
    cells := (sectionRestart s).cells
    sites := s.restartDropped.sites.map fun r => { r with faultRun := 0, lastVerdict := .never }
    probe := (sectionRestart s).probe
    supply := (sectionRestart s).supply } := by
  obtain ⟨_, _, _, _, _, frame⟩ := sectionRestart_frame s
  obtain ⟨entries, sites, filled, dropped⟩ : ∃ entries sites filled,
      s.restartDropped = (restartSeam s).withTables entries sites filled := ⟨_, _, _, (restartDropped_repairs s).tables⟩
  rw [frame, dropped]
  rfl

end Restart

end Sys2Proof.Machine

namespace Sys2Proof

open Machine

/-- Settles O45: the restart is its folds closed by the refresh, and each clause is what those keep or bring about. -/
theorem sectionRestart : Obligations.SectionRestart := by
  intro s rx on other addressed h
  have heard : exec (.sectionRestart rx) s =
      .next (if rx.src.isStation then Machine.sectionRestart h else h) := by
    show Host.Outcome.next (receive rx _ s) = _
    rw [receive_heard on other, if_pos addressed]
  refine ⟨fun tile => ?_, fun station => ⟨Machine.sectionRestart h, ?_, ?_, ?_, sectionRestart_flags h,
    sectionRestart_beside h, ?_, ?_, ?_, ?_, ?_, ?_, ?_, ?_, ?_, ?_, ?_, sectionRestart_cells h, ?_⟩⟩
  · rw [heard, if_neg (by simp [tile])]
  · rw [heard, if_pos station]
  · obtain ⟨_, _, _, _, _, frame⟩ := sectionRestart_frame h
    rw [frame]
    rfl
  · have folds := restartChosen_folds h
    rw [restartEvidence_dropped, restartDropped_folds] at folds
    have lists : Machine.sectionRestart h = { h.restartChosen.listsSent with
      seam := { h.restartChosen.seam with refreshTimer := some 0 } } := refresh_listsSent h.restartChosen
    rw [folds] at lists
    exact lists
  · rintro a (absent | faulty)
    · exact sectionRestart_site_stands h (by rw [absent]; rfl) (by simp [absent])
    · exact sectionRestart_site_stands h (by rw [faulty]; rfl) (by simp [faulty])
  · exact fun c owner site r home hr notSpare => sectionRestart_foreign h home ⟨r, hr, notSpare⟩
  · intro d
    obtain ⟨_, _, _, _, _, frame⟩ := sectionRestart_frame h
    rw [frame]
    exact restartSeam_neighbour h d
  · obtain ⟨_, _, _, _, _, frame⟩ := sectionRestart_frame h
    rw [frame]
  · obtain ⟨_, _, _, _, _, frame⟩ := sectionRestart_frame h
    rw [frame]
  · intro c
    obtain ⟨_, _, _, _, _, frame⟩ := sectionRestart_frame h
    rw [frame]
    exact Tbl.get_map _ _ _
  · intro a
    obtain ⟨st, is, _⟩ := sectionRestart_site_eq h a
    rw [is]
    exact ⟨rfl, rfl, rfl⟩
  · intro a b c n
    obtain ⟨st, is, _, independent⟩ := sectionRestart_site_eq h a
    rw [is]
    constructor <;> rintro rfl <;> simp [SiteState.dependsOn] at independent
  · intro a c own
    rw [← own]
    exact sectionRestart_site_stands h (by rw [own]; rfl) (by simp [own])
  · intro c owner site n timer
    have independent := sectionRestart_independent h c
    exact ⟨fun loan => Bool.noConfusion (independent _ loan), fun asking => Bool.noConfusion (independent _ asking)⟩
  · exact fun c site own => sectionRestart_spare h own
  · intro p
    obtain ⟨notices, port⟩ := sectionRestart_port h p
    rw [port]
    exact ⟨rfl, rfl, rfl, rfl, rfl⟩

end Sys2Proof
end

section
/-! The retired list at the load: what the bytes of a slot say, and the table, the records and the slot map after the slots taken one by one (R60, R169, R174). -/

namespace Sys2Proof.Machine

/-! ## The bytes of a slot (R169) -/

section Bytes

variable (marking high low check : Byte)

theorem readSlot_empty_iff : readSlot marking high low check = .empty ↔ marking = 0xFF#8 := by
  unfold readSlot markingEmpty
  split_ifs <;> simp_all

theorem readSlot_void_iff : readSlot marking high low check = .void ↔ marking = 0x00#8 := by
  unfold readSlot markingEmpty markingVoid
  split_ifs <;> simp_all

theorem readSlot_broken_iff : readSlot marking high low check = .broken ↔
    marking ≠ 0xFF#8 ∧ marking ≠ 0x00#8 ∧ ¬ (marking = 0xA5#8 ∧ crc8 (bitsOfBytes [high, low]) = check) := by
  unfold readSlot markingEmpty markingVoid markingLive crc8Bytes
  split_ifs <;> simp_all

/-- The cell index is the first 10 of the 16 bits, and every value of 10 bits is one. -/
theorem ofIndex_field (c : Cell) : Cell.ofIndex ⟨be16 high low / 64 % 1024, by omega⟩ = c ↔
    32 * c.y.val + c.x.val = (256 * high.toNat + low.toNat) / 64 := by
  have := high.isLt
  have := low.isLt
  rw [← Cell.index_inj, Cell.index_ofIndex, Fin.ext_iff]
  simp only [be16, Cell.index]
  omega

theorem readSlot_live_iff (c : Cell) : readSlot marking high low check = .live c ↔
    marking = 0xA5#8 ∧ crc8 (bitsOfBytes [high, low]) = check ∧
      32 * c.y.val + c.x.val = (256 * high.toNat + low.toNat) / 64 := by
  rw [← ofIndex_field]
  unfold readSlot markingEmpty markingVoid markingLive crc8Bytes
  split_ifs <;> simp_all

end Bytes

/-! ## What each slot comes to (R174) -/

section Slots

variable (bytes : Tbl 512 Byte)

/-- Whether a lower slot holds the same cell (R174). -/
def laterSlot (slot : Fin 128) (c : Cell) : Bool :=
  (List.finRange 128).any fun lower => decide (lower < slot ∧ slotAsRead bytes lower = .live c)

/-- The cell that a slot is the first to hold (R174). -/
def firstCell (slot : Fin 128) : Option Cell :=
  match slotAsRead bytes slot with
  | .live c => if laterSlot bytes slot c then none else some c
  | _ => none

/-- Whether a slot holds a cell that a lower one holds (R174). -/
def duplicateSlot (slot : Fin 128) : Bool :=
  match slotAsRead bytes slot with
  | .live c => laterSlot bytes slot c
  | _ => false

/-- What the slot map holds for a slot (R174). -/
def slotTaken (slot : Fin 128) : Slot :=
  match slotAsRead bytes slot with
  | .empty => .empty
  | .void => .void
  | .broken => .void
  | .live c => if laterSlot bytes slot c then .void else .live c

/-- The entry of a stored cell (R60, R78). -/
def storedEntry (c : Cell) : Entry := ⟨c, .stored, .retired none 0 true⟩

/-- The cells of the first slots, each once. -/
def firstCells (done : List (Fin 128)) : List Cell := done.filterMap (firstCell bytes)

theorem laterSlot_iff (slot : Fin 128) (c : Cell) :
    laterSlot bytes slot c = true ↔ ∃ lower, lower < slot ∧ slotAsRead bytes lower = .live c := by
  simp [laterSlot]

/-- Among the slots below one, a cell that some slot holds is one that some slot is the first to hold. -/
theorem mem_firstCells {done : List (Fin 128)} {slot : Fin 128} (below : ∀ x, x ∈ done ↔ x < slot) (c : Cell) :
    c ∈ firstCells bytes done ↔ laterSlot bytes slot c = true := by
  rw [firstCells, List.mem_filterMap, laterSlot_iff]
  constructor
  · rintro ⟨lower, mem, first⟩
    refine ⟨lower, (below lower).mp mem, ?_⟩
    unfold firstCell at first
    split at first
    · rename_i d live
      split at first
      · cases first
      · rw [live, Option.some.inj first]
    · cases first
  · rintro ⟨lower, less, live⟩
    induction lower using WellFoundedLT.induction with
    | ind lower ih =>
      by_cases later : laterSlot bytes lower c = true
      · obtain ⟨lowest, under, same⟩ := (laterSlot_iff bytes lower c).mp later
        exact ih lowest under (under.trans less) same
      · refine ⟨lower, (below lower).mpr less, ?_⟩
        unfold firstCell
        rw [live]
        exact if_neg later

/-- One slot taken, when the table holds the cells of the slots below it. -/
theorem loadSlot_eq {t : State} {slot : Fin 128}
    (known : ∀ c, (t.entryOf c).isSome = true ↔ laterSlot bytes slot c = true) : loadSlot bytes t slot =
      { t with
        cells := (firstCell bytes slot).elim t.cells fun c => t.cells.set c.index ((t.cell c).turned .retired)
        entries := t.entries ++ (firstCell bytes slot).toList.map storedEntry
        store := { t.store with
          slots := t.store.slots.set slot (slotTaken bytes slot)
          duplicates := t.store.duplicates ++ [slot].filter (duplicateSlot bytes) } } := by
  unfold loadSlot firstCell slotTaken duplicateSlot
  cases h : slotAsRead bytes slot with
  | live c =>
    cases later : laterSlot bytes slot c with
    | true =>
      have entered : (t.entryOf c).isSome = true := (known c).mpr later
      simp [entered, h, later, State.setSlot]
    | false =>
      have new : (t.entryOf c).isSome = false := by simpa [later] using known c
      simp only [new, later, h, List.filter_cons, List.filter_nil, Bool.false_eq_true, if_false, List.append_nil]
      rfl
  | _ => simp [h, State.setSlot]

theorem loadSlot_cell {t : State} {slot : Fin 128}
    (known : ∀ c, (t.entryOf c).isSome = true ↔ laterSlot bytes slot c = true) (c : Cell) :
    (loadSlot bytes t slot).cell c =
      if firstCell bytes slot = some c then (t.cell c).turned .retired else t.cell c := by
  rw [loadSlot_eq bytes known]
  cases firstCell bytes slot with
  | none => exact (if_neg nofun).symm
  | some d =>
    refine (cell_setCell t d c _).trans ?_
    by_cases here : d = c <;> simp [here]

end Slots

/-! ## The slots taken one by one -/

section Loaded

variable {bytes : Tbl 512 Byte}

/-- The second state differs from the first in the remap table, the verdict records, the slot map and the duplicates alone. -/
def OnlyLoaded (s t : State) : Prop :=
  t = { s with
    cells := t.cells, entries := t.entries
    store := { s.store with slots := t.store.slots, duplicates := t.store.duplicates } }

namespace OnlyLoaded

theorem trans {s t u : State} (h : OnlyLoaded s t) (h' : OnlyLoaded t u) : OnlyLoaded s u := by
  unfold OnlyLoaded at *
  rw [h] at h'
  exact h'

variable {s t : State} (h : OnlyLoaded s t)
include h

theorem mode : t.mode = s.mode := by rw [h]
theorem port (p : PortId) : t.port p = s.port p := by rw [h]; rfl
theorem handed : t.handed = s.handed := by rw [h]

end OnlyLoaded

/-- The state when the first slots are taken. -/
structure LoadedUpTo (bytes : Tbl 512 Byte) (done : List (Fin 128)) (s t : State) : Prop where
  only : OnlyLoaded s t
  entries : t.entries = (firstCells bytes done).map storedEntry
  cells : ∀ c, t.cell c = if c ∈ firstCells bytes done then (s.cell c).turned .retired else s.cell c
  duplicates : t.store.duplicates = s.store.duplicates ++ done.filter (duplicateSlot bytes)
  slots : ∀ slot ∈ done, t.store.slots.get slot = slotTaken bytes slot

theorem LoadedUpTo.start {s : State} (empty : s.entries = []) : LoadedUpTo bytes [] s s where
  only := rfl
  entries := empty
  cells _ := (if_neg List.not_mem_nil).symm
  duplicates := (List.append_nil _).symm
  slots := nofun

theorem LoadedUpTo.known {done : List (Fin 128)} {s t : State} (h : LoadedUpTo bytes done s t) (c : Cell) :
    (t.entryOf c).isSome = true ↔ c ∈ firstCells bytes done := by
  unfold State.entryOf
  rw [h.entries, List.find?_isSome]
  simp [storedEntry]

/-- One more slot taken. -/
theorem LoadedUpTo.next {done : List (Fin 128)} {s t : State} (h : LoadedUpTo bytes done s t) {slot : Fin 128}
    (below : ∀ x, x ∈ done ↔ x < slot) : LoadedUpTo bytes (done ++ [slot]) s (loadSlot bytes t slot) := by
  have known (c : Cell) := (h.known c).trans (mem_firstCells bytes below c)
  have taken := loadSlot_eq bytes known
  have cells : firstCells bytes (done ++ [slot]) = firstCells bytes done ++ (firstCell bytes slot).toList := by
    unfold firstCells
    rw [List.filterMap_append]
    cases first : firstCell bytes slot <;> simp [first]
  refine ⟨h.only.trans ?_, ?_, fun c => ?_, ?_, fun x hx => ?_⟩
  · rw [taken]
    rfl
  · rw [taken, cells, List.map_append, ← h.entries]
  · rw [loadSlot_cell bytes known, cells, h.cells c]
    by_cases first : firstCell bytes slot = some c
    · have mem : c ∈ firstCells bytes done ++ (firstCell bytes slot).toList := by simp [first]
      rw [if_pos first, if_pos mem]
      split <;> rfl
    · rw [if_neg first]
      simp [first]
  · rw [taken, List.filter_append, ← List.append_assoc, ← h.duplicates]
  · rw [taken]
    dsimp only
    rw [Tbl.get_set]
    split
    · rename_i here
      rw [here]
    · rename_i other
      refine h.slots x ?_
      simpa [Ne.symm other] using hx

/-- The slots before one in slot order are those below it. -/
theorem mem_before {done rest : List (Fin 128)} {slot : Fin 128} (order : done ++ slot :: rest = List.finRange 128)
    (x : Fin 128) : x ∈ done ↔ x < slot := by
  have sorted := List.pairwise_lt_finRange 128
  rw [← order] at sorted
  obtain ⟨_, after, across⟩ := List.pairwise_append.mp sorted
  refine ⟨fun mem => across x mem slot List.mem_cons_self, fun less => ?_⟩
  have mem : x ∈ done ++ slot :: rest := order ▸ List.mem_finRange x
  rw [List.mem_append, List.mem_cons] at mem
  obtain mem | rfl | mem := mem
  · exact mem
  · exact absurd less (lt_irrefl _)
  · exact absurd less (lt_asymm ((List.pairwise_cons.mp after).1 x mem))

theorem LoadedUpTo.rest {s : State} : ∀ (rest done : List (Fin 128)) {t : State}, done ++ rest = List.finRange 128 →
    LoadedUpTo bytes done s t → LoadedUpTo bytes (List.finRange 128) s (rest.foldl (loadSlot bytes) t)
  | [], done, t, order, h => by
    rw [List.append_nil] at order
    exact order ▸ h
  | slot :: rest, done, t, order, h =>
    LoadedUpTo.rest rest (done ++ [slot]) (by rw [List.append_assoc]; exact order) (h.next (mem_before order))

/-- All 128 slots taken by a part whose table was empty. -/
theorem loadedUpTo_all (bytes : Tbl 512 Byte) {s : State} (empty : s.entries = []) :
    LoadedUpTo bytes (List.finRange 128) s ((List.finRange 128).foldl (loadSlot bytes) s) :=
  LoadedUpTo.rest _ [] rfl (.start empty)

end Loaded

/-- Settles O10: the bytes of a slot by its state marking, and the 128 slots taken in slot order. -/
theorem retiredListTaken : Obligations.RetiredListTaken := by
  refine ⟨fun bytes slot => ⟨readSlot_empty_iff .., readSlot_void_iff .., fun c => readSlot_live_iff _ _ _ _ c,
    readSlot_broken_iff ..⟩, fun bytes s loading at_ empty => ?_⟩
  intro later first
  have loaded := loadedUpTo_all bytes empty
  have loads : s.loadsAt .retiredList = true := by simp [State.loadsAt, loading, at_]
  refine ⟨takeRetiredList bytes s, congrArg Host.Outcome.next (if_pos loads),
    congrArg (fun u : State => { u with loadPhase := .complete }) loaded.only, loaded.entries, loaded.cells,
    loaded.duplicates, fun slot => ?_⟩
  have taken : (takeRetiredList bytes s).store.slots.get slot = slotTaken bytes slot :=
    loaded.slots slot (List.mem_finRange slot)
  have duplicates : (takeRetiredList bytes s).store.duplicates = _ := loaded.duplicates
  rw [taken]
  cases read : slotAsRead bytes slot with
  | live c =>
    dsimp only
    split
    · rename_i dup
      refine ⟨by simp only [slotTaken, read]; exact if_pos dup, ?_⟩
      rw [duplicates, List.mem_append, List.mem_filter]
      refine Or.inr ⟨List.mem_finRange slot, ?_⟩
      simp only [duplicateSlot, read]
      exact dup
    · rename_i new
      simp only [slotTaken, read]
      exact if_neg new
  | _ => simp [slotTaken, read]

end Sys2Proof.Machine
end

section
/-! The remap table as a list of cells and the conditions their entries show, in agreement with the verdict records; what the admissions, conversions and removals make of it (R45, R62, R66 to R70). -/

namespace Sys2Proof.Machine

/-! ## What the table lists and what the records show -/

/-- The condition that a cell's entry shows, when the cell's condition calls for an entry (R45). -/
def Condition.shown : Condition → Option Condition
  | .good => none
  | .suspect => none
  | .dim => some .dim
  | .retired => some .retired

/-- What each cell's record calls for in the remap table (R45). -/
def State.shown (s : State) (c : Cell) : Option Condition := (s.cell c).condition.shown

/-- The cells of the remap table with the conditions that their entries show, in ascending position. -/
def State.listing (s : State) : List (Cell × Condition) := s.entries.map fun e => (e.cell, e.condition)

theorem shown_of_condition {s : State} {c : Cell} {k : Condition} (h : (s.cell c).condition = k) :
    s.shown c = k.shown := by
  rw [State.shown, h]

/-- A listing within the table's places, one entry per cell, in agreement with the records (R45, R62). -/
structure Listed (l : List (Cell × Condition)) (shown : Cell → Option Condition) : Prop where
  room : l.length ≤ 128
  once : (l.map Prod.fst).Nodup
  agrees : ∀ c k, (c, k) ∈ l ↔ shown c = some k

theorem listing_cells (s : State) : s.listing.map Prod.fst = s.entries.map Entry.cell := by
  simp [State.listing]

theorem listing_length (s : State) : s.listing.length = s.entries.length := List.length_map _

theorem listing_eq_nil {s : State} : s.listing = [] ↔ s.entries = [] := List.map_eq_nil_iff

theorem mem_listing {s : State} (once : (s.entries.map Entry.cell).Nodup) (c : Cell) (k : Condition) :
    (c, k) ∈ s.listing ↔ (s.entryOf c).map Entry.condition = some k := by
  rw [Option.map_eq_some_iff]
  constructor
  · intro h
    obtain ⟨e, he, same⟩ := List.mem_map.mp h
    obtain ⟨rfl, rfl⟩ := Prod.mk.inj same
    exact ⟨e, entryOf_of_mem once he, rfl⟩
  · rintro ⟨e, he, rfl⟩
    exact List.mem_map.mpr ⟨e, entryOf_mem s he, by rw [entryOf_cell s he]⟩

theorem shown_eq_none_iff (k : Condition) : k.shown = none ↔ k = .good ∨ k = .suspect := by
  cases k <;> simp [Condition.shown]

theorem shown_eq_some_iff (k : Condition) (e : Entry) : k.shown = some e.condition ↔ k = e.condition := by
  cases k <;> cases h : e.isRetired <;> simp [Condition.shown, Entry.condition, h]

/-- Agreement with the conditions, cell by cell (R45). -/
theorem entriesMatchConditions_iff (s : State) :
    EntriesMatchConditions s ↔ ∀ c, (s.entryOf c).map Entry.condition = s.shown c := by
  refine forall_congr' fun c => ?_
  cases s.entryOf c with
  | none => exact ((eq_comm.trans (shown_eq_none_iff _))).symm
  | some e => exact ((eq_comm.trans (shown_eq_some_iff _ e))).symm

theorem tableSound_iff (s : State) : TableSound s ↔ QuietOutsideRun s ∧ Listed s.listing s.shown := by
  refine and_congr_right fun _ => ⟨?_, ?_⟩
  · rintro ⟨room, once, agrees⟩
    refine ⟨(listing_length s).trans_le room, (listing_cells s).symm ▸ once, fun c k => ?_⟩
    rw [mem_listing once, (entriesMatchConditions_iff s).mp agrees c]
  · rintro ⟨room, once, agrees⟩
    rw [listing_cells] at once
    refine ⟨(listing_length s).symm.trans_le room, once, (entriesMatchConditions_iff s).mpr fun c => ?_⟩
    exact Option.ext fun k => (mem_listing once c k).symm.trans (agrees c k)

/-! ## Changes of a listing -/

namespace Listed

variable {l : List (Cell × Condition)} {f : Cell → Option Condition} (h : Listed l f)
include h

theorem not_mem {c : Cell} (new : f c = none) : c ∉ l.map Prod.fst := by
  intro hc
  obtain ⟨⟨d, k⟩, mem, rfl⟩ := List.mem_map.mp hc
  have := (h.agrees d k).mp mem
  rw [new] at this
  cases this

/-- A cell without an entry is listed as the newest (R66, R67). -/
theorem append {c : Cell} (new : f c = none) (free : l.length < 128) (k : Condition) :
    Listed (l ++ [(c, k)]) (Function.update f c (some k)) where
  room := by simpa using free
  once := by
    rw [List.map_append]
    exact List.concat_eq_append ▸ h.once.concat (h.not_mem new)
  agrees d j := by
    rw [List.mem_append, List.mem_singleton, h.agrees, Prod.mk.injEq]
    by_cases same : d = c
    · subst same
      rw [Function.update_self, new]
      simp [eq_comm]
    · rw [Function.update_of_ne same]
      simp [same]

/-- A cell's entry is taken out (R70). -/
theorem remove (c : Cell) : Listed (l.filter fun p => !(p.1 == c)) (Function.update f c none) where
  room := (List.length_filter_le _ _).trans h.room
  once := h.once.sublist (List.filter_sublist.map _)
  agrees d j := by
    rw [List.mem_filter, h.agrees]
    by_cases same : d = c
    · subst same
      simp
    · rw [Function.update_of_ne same]
      simp [same]

/-- A listed cell taken out leaves a free place. -/
theorem remove_free {c : Cell} {k : Condition} (mem : (c, k) ∈ l) : (l.filter fun p => !(p.1 == c)).length < 128 :=
  (List.length_filter_lt_length_iff_exists.mpr ⟨_, mem, by simp⟩).trans_le h.room

/-- A listed cell shows another condition where it stands (R68). -/
theorem change {c : Cell} {j : Condition} (was : f c = some j) (k : Condition) :
    Listed (l.map fun p => if p.1 = c then (c, k) else p) (Function.update f c (some k)) where
  room := (List.length_map _).trans_le h.room
  once := by
    have cells : (l.map fun p => if p.1 = c then (c, k) else p).map Prod.fst = l.map Prod.fst := by
      rw [List.map_map]
      refine List.map_congr_left fun p _ => ?_
      by_cases same : p.1 = c <;> simp [same]
    rw [cells]
    exact h.once
  agrees d i := by
    rw [List.mem_map]
    by_cases same : d = c
    · subst same
      rw [Function.update_self, Option.some.injEq]
      constructor
      · rintro ⟨⟨e, m⟩, mem, is⟩
        by_cases here : e = d
        · rw [if_pos here] at is
          exact (Prod.mk.inj is).2
        · rw [if_neg here] at is
          exact absurd (Prod.mk.inj is).1 here
      · rintro rfl
        exact ⟨(d, j), (h.agrees d j).mpr was, if_pos rfl⟩
    · rw [Function.update_of_ne same, ← h.agrees]
      constructor
      · rintro ⟨⟨e, m⟩, mem, is⟩
        by_cases here : e = c
        · rw [if_pos here] at is
          exact absurd (Prod.mk.inj is).1.symm same
        · rw [if_neg here] at is
          exact is ▸ mem
      · exact fun mem => ⟨(d, i), mem, if_neg same⟩

end Listed

/-! ## The listing and the records after the changes of the state -/

section Changes

variable (s : State)

theorem shown_setCell (c : Cell) (r : CellRecord) :
    (s.setCell c r).shown = Function.update s.shown c r.condition.shown := by
  funext d
  unfold State.shown
  rw [cell_setCell]
  by_cases h : c = d
  · subst h
    simp
  · rw [if_neg h, Function.update_of_ne (Ne.symm h)]

theorem listing_append (e : Entry) :
    (s.setEntries (s.entries ++ [e])).listing = s.listing ++ [(e.cell, e.condition)] := by
  simp [State.listing]

theorem listing_removeCell (c : Cell) :
    (s.setEntries (removeCell c s.entries)).listing = s.listing.filter fun p => !(p.1 == c) := by
  simp only [State.listing, setEntries_entries, removeCell, List.filter_map]
  rfl

/-- A table whose entries are changed in their places, each keeping its cell and its condition, lists the same. -/
theorem listing_map {f : Entry → Entry} (cell : ∀ e, (f e).cell = e.cell)
    (retired : ∀ e, (f e).isRetired = e.isRetired) : (s.setEntries (s.entries.map f)).listing = s.listing := by
  simp only [State.listing, setEntries_entries, List.map_map, Function.comp_def, Entry.condition, cell, retired]

theorem listing_changeEntry (c : Cell) {f : Entry → Entry} (cell : ∀ e, (f e).cell = e.cell)
    (retired : ∀ e, (f e).isRetired = e.isRetired) :
    (s.setEntries (changeEntry c f s.entries)).listing = s.listing :=
  listing_map s (fun e => by split <;> simp [cell]) fun e => by split <;> simp [retired]

theorem converted_condition (e : Entry) (o : Origin) (n : Nat) : (e.converted o n).condition = .retired := by
  obtain ⟨c, origin, body⟩ := e
  cases body <;> rfl

theorem listing_converted (c : Cell) (o : Origin) (n : Nat) :
    (s.setEntries (changeEntry c (fun e => e.converted o n) s.entries)).listing =
      s.listing.map fun p => if p.1 = c then (c, .retired) else p := by
  simp only [State.listing, setEntries_entries, changeEntry, List.map_map]
  refine List.map_congr_left fun e _ => ?_
  by_cases h : e.cell = c <;> simp [h, converted_condition]

end Changes

/-! ## What leaves the table as it is -/

/-- The second state has the mode, the listing and the verdict records of the first. -/
structure SameTable (s t : State) : Prop where
  mode : t.mode = s.mode
  listing : t.listing = s.listing
  cells : t.cells = s.cells

namespace SameTable

theorem trans {s t u : State} (h : SameTable s t) (h' : SameTable t u) : SameTable s u :=
  ⟨h'.mode.trans h.mode, h'.listing.trans h.listing, h'.cells.trans h.cells⟩

theorem shown {s t : State} (h : SameTable s t) : t.shown = s.shown := by
  funext c
  unfold State.shown State.cell
  rw [h.cells]

end SameTable

theorem enqueue_sameTable (p : PortId) (n : Notice) (s : State) : SameTable s (enqueue p n s) := by
  rw [enqueue_onlySends p n s]
  exact ⟨rfl, rfl, rfl⟩

/-- No operation on remedies adds, removes or converts an entry, or changes a record. -/
theorem sameTable_kept (s : State) : RemedyKept (SameTable s) where
  enqueue p n _ h := h.trans (enqueue_sameTable p n _)
  remedy c r t h := h.trans
    ⟨rfl, listing_changeEntry t c (fun e => withRemedy_cell e r) fun e => withRemedy_isRetired e r, rfl⟩
  site _ _ _ h := h.trans ⟨rfl, rfl, rfl⟩
  mark _ _ _ _ h := h.trans ⟨rfl, rfl, rfl⟩

theorem SameTable.refl (s : State) : SameTable s s := ⟨rfl, rfl, rfl⟩

theorem queueWrite_sameTable (op : PendingWrite) (s : State) : SameTable s (queueWrite op s) := by
  unfold queueWrite
  split <;> exact ⟨rfl, rfl, rfl⟩

theorem storeAppend_sameTable (c : Cell) (o : Origin) (s : State) : SameTable s (storeAppend c o s) := by
  unfold storeAppend
  split
  · exact .refl s
  · exact queueWrite_sameTable _ s

theorem storeRemoval_sameTable (c : Cell) (s : State) : SameTable s (storeRemoval c s) := by
  unfold storeRemoval
  split
  · exact .refl s
  · split
    · exact ⟨rfl, rfl, rfl⟩
    · split
      · exact queueWrite_sameTable _ s
      · exact .refl s

/-- A RETIRED entry given its remedy and handed to the store leaves the table as it was entered (R67, R68). -/
theorem retire_sameTable (c : Cell) (o : Origin) (s : State) :
    SameTable s (storeAppend c o (chooseRemedy true c s)) :=
  ((sameTable_kept s).chooseRemedy true c s (.refl s)).trans (storeAppend_sameTable c o _)

end Sys2Proof.Machine
end

section
/-! The admissions, conversions, removals and verdicts of RUN: what each comes to, and that each leaves the remap table in agreement with the records (R45 to R57, R62, R66 to R70). -/

namespace Sys2Proof.Machine

/-! ## Admissions by the room of the table (R66, R67) -/

section Admissions

variable {s : State} {c : Cell} {o : Origin} {n : Nat}

/-- A cell RETIRED with a new entry, its record with all runs 0 (R52, R67). -/
def State.newlyRetired (s : State) (c : Cell) (o : Origin) (n : Nat) : State :=
  (appendRetired c o n s).changeCell c fun r => r.becomes .retired

/-- The state with a cell's entry taken out. -/
def State.without (s : State) (c : Cell) : State := s.setEntries (removeCell c s.entries)

theorem enterRetired_room (room : s.entries.length < 128) :
    enterRetired c o n s = (.admitted, appendRetired c o n s) := if_pos room

theorem enterRetired_evicts {e : Entry} (full : ¬ s.entries.length < 128) (oldest : oldestDim s.entries = some e) :
    enterRetired c o n s = (.admittedByEviction e.cell, appendRetired c o n (s.without e.cell)) := by
  unfold enterRetired
  rw [if_neg (show ¬ s.entries.length < Config.entryPlaces from full), oldest]
  rfl

theorem enterRetired_refused (full : ¬ s.entries.length < 128) (none : oldestDim s.entries = .none) :
    enterRetired c o n s = (.refused, s) := by
  unfold enterRetired
  rw [if_neg (show ¬ s.entries.length < Config.entryPlaces from full), none]

theorem retireDetected_room (room : s.entries.length < 128) :
    retireDetected c n s = s.newlyRetired c .detected n := by
  unfold retireDetected
  rw [enterRetired_room room]
  rfl

theorem retireDetected_evicts {e : Entry} (full : ¬ s.entries.length < 128) (oldest : oldestDim s.entries = some e) :
    retireDetected c n s = ((s.without e.cell).newlyRetired c .detected n).changeCell e.cell
      fun r => r.becomes .good := by
  unfold retireDetected
  rw [enterRetired_evicts full oldest]
  rfl

theorem retireDetected_refused (full : ¬ s.entries.length < 128) (none : oldestDim s.entries = .none) :
    retireDetected c n s =
      (s.changeCell c fun r => { r.withRuns s.cfg.k 0 0 with condition := .suspect }).raise .tableFull := by
  unfold retireDetected
  rw [enterRetired_refused full none]

theorem dimDetected_room {gains : Rgb Nat} (room : s.entries.length < 128) : dimDetected c gains s =
    (s.setEntries (s.entries ++ [⟨c, .detected, .dim gains⟩])).changeCell c fun r => r.becomes .dim := by
  unfold dimDetected enterDim
  rw [if_pos (show s.entries.length < Config.entryPlaces from room)]

theorem dimDetected_refused {gains : Rgb Nat} (full : ¬ s.entries.length < 128) : dimDetected c gains s =
    (s.changeCell c fun r => { r.withRuns 0 s.cfg.kDim 0 with condition := .good }).raise .tableFull := by
  unfold dimDetected enterDim
  rw [if_neg (show ¬ s.entries.length < Config.entryPlaces from full)]

theorem convertEntry_dim {e : Entry} (entry : s.entryOf c = some e) (dim : e.isRetired = false) :
    convertEntry c o n s = storeAppend c o (chooseRemedy true c
      (s.setEntries (changeEntry c (fun e => e.converted o n) s.entries))) := by
  unfold convertEntry
  rw [entry]
  exact if_neg (by simp [dim])

theorem removeEntry_dim {e : Entry} (entry : s.entryOf c = some e) (dim : e.isRetired = false) :
    removeEntry c s = s.without c := by
  unfold removeEntry
  rw [entry]
  exact if_neg (by simp [dim])

/-- The removal of a RETIRED entry: its remedy released to its owner, the entry out, the change told, its site freed, the store told (R70). -/
theorem removeEntry_retired {e : Entry} (entry : s.entryOf c = some e) (retired : e.isRetired = true) :
    removeEntry c s = storeRemoval c (releaseToSite c e.remedy
      (tellFilled true c e.isFilled false ((releaseToOwner c e.remedy s).without c))) := by
  unfold removeEntry
  rw [entry]
  exact if_pos retired

/-- MARK on a cell without an entry: into a free place (R56, R67). -/
theorem markCellRetired_room (unlisted : (s.cell c).condition.shown = none) (room : s.entries.length < 128) :
    markCellRetired c s = (.done, s.newlyRetired c .marked s.probe.sweepCount) := by
  unfold markCellRetired
  rw [enterRetired_room room]
  obtain h | h := (shown_eq_none_iff _).mp unlisted <;> rw [h] <;> rfl

theorem markCellRetired_evicts (unlisted : (s.cell c).condition.shown = none) {e : Entry}
    (full : ¬ s.entries.length < 128) (oldest : oldestDim s.entries = some e) : markCellRetired c s =
      (.done, ((s.without e.cell).newlyRetired c .marked s.probe.sweepCount).changeCell e.cell
        fun r => r.becomes .good) := by
  unfold markCellRetired
  rw [enterRetired_evicts full oldest]
  obtain h | h := (shown_eq_none_iff _).mp unlisted <;> rw [h] <;> rfl

theorem markCellRetired_refused (unlisted : (s.cell c).condition.shown = none)
    (full : ¬ s.entries.length < 128) (none : oldestDim s.entries = .none) : markCellRetired c s = (.noRoom, s) := by
  unfold markCellRetired
  rw [enterRetired_refused full none]
  obtain h | h := (shown_eq_none_iff _).mp unlisted <;> rw [h]

theorem markCellRetired_retired (h : (s.cell c).condition = .retired) : markCellRetired c s = (.already, s) := by
  unfold markCellRetired
  rw [h]

theorem markCellRetired_dim (h : (s.cell c).condition = .dim) : markCellRetired c s =
    (.done, (convertEntry c .marked s.probe.sweepCount s).changeCell c fun r => r.becomes .retired) := by
  unfold markCellRetired
  rw [h]

theorem restoreCell_unlisted (h : (s.cell c).condition.shown = none) : restoreCell c s = (.notMarked, s) := by
  unfold restoreCell
  obtain h | h := (shown_eq_none_iff _).mp h <;> rw [h]

theorem restoreCell_listed {k : Condition} (h : (s.cell c).condition.shown = some k) : restoreCell c s =
    (.done, (removeEntry c s).changeCell c fun r => r.becomes .good) := by
  unfold restoreCell
  cases hc : (s.cell c).condition <;> rw [hc] at h <;> cases h

end Admissions

/-! ## The table in RUN -/

/-- The part is in RUN with its remap table in agreement with the records (R45, R62). -/
structure TableInRun (s : State) : Prop where
  run : s.mode = .run
  listed : Listed s.listing s.shown

theorem TableSound.inRun {s : State} (h : TableSound s) (run : s.mode = .run) : TableInRun s :=
  ⟨run, ((tableSound_iff s).mp h).2⟩

theorem TableInRun.sound {s : State} (h : TableInRun s) : TableSound s :=
  (tableSound_iff s).mpr ⟨fun off => absurd h.run off, h.listed⟩

theorem TableInRun.same {s t : State} (h : TableInRun s) (same : SameTable s t) : TableInRun t :=
  ⟨same.mode.trans h.run, by rw [same.listing, same.shown]; exact h.listed⟩

/-- A record changed while its condition shows the same leaves the agreement. -/
theorem TableInRun.setCell {s : State} (h : TableInRun s) {c : Cell} {r : CellRecord}
    (same : r.condition.shown = s.shown c) : TableInRun (s.setCell c r) := by
  refine ⟨h.run, ?_⟩
  rw [shown_setCell, same, Function.update_eq_self]
  exact h.listed

theorem replaceFills_sameTable (edge : Edge) (positions : List (Fin 32)) (s : State) :
    SameTable s (replaceFills edge positions s) := by
  unfold replaceFills
  dsimp only
  split <;> exact ⟨rfl, rfl, rfl⟩

/-- The blocks of the seam leave the table as it is. -/
theorem tableInRun_seam : SeamKept TableInRun where
  enqueue p n _ h := h.same (enqueue_sameTable p n _)
  remedy c r t h := h.same ((sameTable_kept t).remedy c r t (.refl t))
  site _ _ _ h := h.same ⟨rfl, rfl, rfl⟩
  mark _ _ _ _ h := h.same ⟨rfl, rfl, rfl⟩
  raise _ _ h := h.same ⟨rfl, rfl, rfl⟩
  hear _ _ _ h _ := h.same ⟨rfl, rfl, rfl⟩
  request _ _ h := h.same ⟨rfl, rfl, rfl⟩
  fills edge positions _ h := h.same (replaceFills_sameTable edge positions _)
  timer _ h := h.same ⟨rfl, rfl, rfl⟩

/-! ## Entries entered, converted and removed (R45) -/

theorem setCell_listing (s : State) (c : Cell) (r : CellRecord) : (s.setCell c r).listing = s.listing := rfl

section Kept

variable {s : State} {c : Cell}

/-- A record written together with the listing that its condition calls for. -/
theorem TableInRun.written {t : State} {r : CellRecord} {k : Option Condition} (same : SameTable s t)
    (run : s.mode = .run) (condition : r.condition.shown = k)
    (listed : Listed s.listing (Function.update s.shown c k)) : TableInRun (t.setCell c r) := by
  refine ⟨same.mode.trans run, ?_⟩
  rw [shown_setCell, same.shown, condition]
  exact same.listing.symm ▸ listed

theorem oldestDim_mem {es : List Entry} {e : Entry} (h : oldestDim es = some e) : e ∈ es ∧ e.isRetired = false :=
  ⟨List.mem_of_find?_eq_some h, by simpa using List.find?_some h⟩

/-- The listing and the records of a newly RETIRED cell (R52, R67). -/
theorem newlyRetired_table (s : State) (c : Cell) (o : Origin) (n : Nat) :
    (s.newlyRetired c o n).mode = s.mode ∧ (s.newlyRetired c o n).listing = s.listing ++ [(c, .retired)] ∧
      (s.newlyRetired c o n).shown = Function.update s.shown c (some .retired) := by
  have same : SameTable (s.setEntries (s.entries ++ [⟨c, o, .retired none n false⟩])) (appendRetired c o n s) :=
    retire_sameTable c o _
  refine ⟨same.mode, same.listing.trans (listing_append s _), ?_⟩
  unfold State.newlyRetired State.changeCell
  rw [shown_setCell, same.shown]
  rfl

/-- A cell without an entry RETIRED into a free place (R67). -/
theorem TableInRun.newlyRetired (h : TableInRun s) (new : s.shown c = none) (room : s.entries.length < 128)
    (o : Origin) (n : Nat) : TableInRun (s.newlyRetired c o n) := by
  obtain ⟨mode, listing, shown⟩ := newlyRetired_table s c o n
  refine ⟨mode.trans h.run, ?_⟩
  rw [listing, shown]
  exact h.listed.append new ((listing_length s).trans_lt room) .retired

/-- A cell without an entry RETIRED in the place of the oldest DIM entry (R54, R67). -/
theorem TableInRun.evicted (h : TableInRun s) (new : s.shown c = none) {e : Entry}
    (oldest : oldestDim s.entries = some e) (o : Origin) (n : Nat) :
    TableInRun (((s.without e.cell).newlyRetired c o n).changeCell e.cell fun r => r.becomes .good) := by
  have listed : (e.cell, e.condition) ∈ s.listing := List.mem_map_of_mem (oldestDim_mem oldest).1
  have apart : c ≠ e.cell := by
    rintro rfl
    have := (h.listed.agrees _ _).mp listed
    rw [new] at this
    cases this
  have removed : (s.without e.cell).listing = s.listing.filter fun p => !(p.1 == e.cell) := listing_removeCell s e.cell
  obtain ⟨mode, listing, shown⟩ := newlyRetired_table (s.without e.cell) c o n
  refine ⟨mode.trans h.run, ?_⟩
  unfold State.changeCell
  rw [shown_setCell, shown, Function.update_comm apart, setCell_listing, listing, removed]
  exact (h.listed.remove e.cell).append (by rw [Function.update_of_ne apart, new]) (h.listed.remove_free listed) .retired

/-- A DIM entry converted where it stands (R68). -/
theorem TableInRun.converted (h : TableInRun s) (dim : (s.cell c).condition = .dim) (o : Origin) (n : Nat) :
    TableInRun ((convertEntry c o n s).changeCell c fun r => r.becomes .retired) := by
  have shown : s.shown c = some .dim := shown_of_condition dim
  have mem := (h.listed.agrees c .dim).mpr shown
  rw [mem_listing (listing_cells s ▸ h.listed.once)] at mem
  obtain ⟨e, entry, cond⟩ := Option.map_eq_some_iff.mp mem
  have isDim : e.isRetired = false := by
    cases he : e.isRetired <;> simp [Entry.condition, he] at cond ⊢
  rw [convertEntry_dim entry isDim]
  refine TableInRun.written (retire_sameTable c o _) h.run (k := some .retired) rfl ?_
  rw [listing_converted]
  exact h.listed.change shown .retired

/-- The entry of a cell taken out, whatever its remedy (R70). -/
theorem removeEntry_listing (s : State) (c : Cell) :
    (removeEntry c s).mode = s.mode ∧ (removeEntry c s).cells = s.cells ∧
      (removeEntry c s).listing = s.listing.filter fun p => !(p.1 == c) := by
  cases entry : s.entryOf c with
  | none =>
    have absent : ∀ p ∈ s.listing, (!(p.1 == c)) = true := by
      intro p hp
      obtain ⟨e, he, rfl⟩ := List.mem_map.mp hp
      simpa using List.find?_eq_none.mp entry e he
    unfold removeEntry
    rw [entry, List.filter_eq_self.mpr absent]
    exact ⟨rfl, rfl, rfl⟩
  | some e =>
    cases retired : e.isRetired with
    | false =>
      rw [removeEntry_dim entry retired]
      exact ⟨rfl, rfl, listing_removeCell s c⟩
    | true =>
      rw [removeEntry_retired entry retired]
      have released := (sameTable_kept s).releaseToOwner c e.remedy s (.refl s)
      have k := sameTable_kept ((releaseToOwner c e.remedy s).without c)
      have told := (k.releaseToSite c e.remedy _ (k.tellFilled true c e.isFilled false _ (.refl _))).trans
        (storeRemoval_sameTable c _)
      refine ⟨told.mode.trans released.mode, told.cells.trans released.cells, told.listing.trans ?_⟩
      rw [← released.listing]
      exact listing_removeCell _ c

/-- An entry removed and its cell GOOD (R50, R57). -/
theorem TableInRun.removed (h : TableInRun s) (c : Cell) :
    TableInRun ((removeEntry c s).changeCell c fun r => r.becomes .good) := by
  obtain ⟨mode, cells, listing⟩ := removeEntry_listing s c
  refine ⟨mode.trans h.run, ?_⟩
  have shown : (removeEntry c s).shown = s.shown := by
    funext d
    unfold State.shown State.cell
    rw [cells]
  unfold State.changeCell
  rw [shown_setCell, shown]
  exact listing.symm ▸ h.listed.remove c

/-- A cell without an entry admitted as DIM into a free place (R66). -/
theorem TableInRun.dimmed (h : TableInRun s) (new : s.shown c = none) (room : s.entries.length < 128)
    (gains : Rgb Nat) : TableInRun
      ((s.setEntries (s.entries ++ [⟨c, .detected, .dim gains⟩])).changeCell c fun r => r.becomes .dim) := by
  refine TableInRun.written (.refl _) h.run (k := some .dim) rfl ?_
  rw [listing_append]
  exact h.listed.append new ((listing_length s).trans_lt room) .dim

/-! ## Verdicts, MARK and RESTORE (R48 to R57) -/

theorem TableInRun.retireDetected (h : TableInRun s) (new : s.shown c = none) (n : Nat) :
    TableInRun (retireDetected c n s) := by
  by_cases room : s.entries.length < 128
  · rw [retireDetected_room room]
    exact h.newlyRetired new room _ n
  · cases oldest : oldestDim s.entries with
    | some e =>
      rw [retireDetected_evicts room oldest]
      exact h.evicted new oldest _ n
    | none =>
      rw [retireDetected_refused room oldest]
      exact tableInRun_seam.raise _ _ (h.setCell new.symm)

theorem TableInRun.dimDetected (h : TableInRun s) (new : s.shown c = none) (gains : Rgb Nat) :
    TableInRun (dimDetected c gains s) := by
  by_cases room : s.entries.length < 128
  · rw [dimDetected_room room]
    exact h.dimmed new room gains
  · rw [dimDetected_refused room]
    exact tableInRun_seam.raise _ _ (h.setCell new.symm)

theorem TableInRun.markCellRetired (h : TableInRun s) (c : Cell) : TableInRun (markCellRetired c s).2 := by
  have unlisted (new : s.shown c = none) : TableInRun (Machine.markCellRetired c s).2 := by
    by_cases room : s.entries.length < 128
    · rw [markCellRetired_room new room]
      exact h.newlyRetired new room _ _
    · cases oldest : oldestDim s.entries with
      | some e =>
        rw [markCellRetired_evicts new room oldest]
        exact h.evicted new oldest _ _
      | none =>
        rw [markCellRetired_refused new room oldest]
        exact h
  cases hc : (s.cell c).condition with
  | good => exact unlisted (shown_of_condition hc)
  | suspect => exact unlisted (shown_of_condition hc)
  | dim =>
    rw [markCellRetired_dim hc]
    exact h.converted hc _ _
  | retired =>
    rw [markCellRetired_retired hc]
    exact h

theorem TableInRun.restoreCell (h : TableInRun s) (c : Cell) : TableInRun (restoreCell c s).2 := by
  cases shown : s.shown c with
  | none =>
    rw [restoreCell_unlisted shown]
    exact h
  | some k =>
    rw [restoreCell_listed shown]
    exact h.removed c

section Verdicts

variable {v : CellVerdict}

/-- A cell without an entry whose record goes on calling for none. -/
theorem TableInRun.unlisted (h : TableInRun s) (new : s.shown c = none) {r : CellRecord}
    (none : r.condition.shown = none) : TableInRun (s.setCell c r) ∧ (s.setCell c r).shown c = .none :=
  ⟨h.setCell (none.trans new.symm), by rw [shown_setCell, Function.update_self, none]⟩

theorem TableInRun.judgeGood (h : TableInRun s) (good : (s.cell v.cell).condition = .good) (j : Judgement) :
    TableInRun (judgeGood v j s) := by
  have new : s.shown v.cell = none := shown_of_condition good
  cases j with
  | fault =>
    obtain ⟨kept, unlisted⟩ := h.unlisted new
      (r := { s.cell v.cell with faultRun := 1, weakRun := 0, condition := .suspect }) rfl
    unfold Machine.judgeGood
    dsimp only
    split
    · exact kept.retireDetected unlisted _
    · exact kept
  | weak gains =>
    obtain ⟨kept, unlisted⟩ := h.unlisted new
      (r := { s.cell v.cell with weakRun := min s.cfg.kDim ((s.cell v.cell).weakRun + 1) }) new
    unfold Machine.judgeGood
    dsimp only
    split
    · exact kept.dimDetected unlisted _
    · exact kept
  | healthy => exact h.setCell rfl
  | none => exact h

theorem TableInRun.judgeSuspect (h : TableInRun s) (suspect : (s.cell v.cell).condition = .suspect) (j : Judgement) :
    TableInRun (judgeSuspect v j s) := by
  have new : s.shown v.cell = none := shown_of_condition suspect
  cases j with
  | fault =>
    obtain ⟨kept, unlisted⟩ := h.unlisted new
      (r := { s.cell v.cell with faultRun := min s.cfg.k ((s.cell v.cell).faultRun + 1) }) new
    unfold Machine.judgeSuspect
    dsimp only
    split
    · exact kept.retireDetected unlisted _
    · exact kept
  | weak gains =>
    obtain ⟨kept, unlisted⟩ := h.unlisted new
      (r := { s.cell v.cell with condition := .good, faultRun := 0, weakRun := 1 }) rfl
    unfold Machine.judgeSuspect
    dsimp only
    split
    · exact kept.dimDetected unlisted _
    · exact kept
  | healthy => exact h.setCell new.symm
  | none => exact h

theorem TableInRun.judgeDim (h : TableInRun s) (dim : (s.cell v.cell).condition = .dim) (j : Judgement) :
    TableInRun (judgeDim v j s) := by
  cases j with
  | fault =>
    unfold Machine.judgeDim
    dsimp only
    split
    · exact h.converted dim _ _
    · exact h.setCell rfl
  | weak gains =>
    have replaced : SameTable s (replaceGains v.cell gains s) :=
      ⟨rfl, listing_changeEntry s _ (fun e => withGains_cell e gains) fun e => withGains_isRetired e gains, rfl⟩
    exact (h.same replaced).setCell rfl
  | healthy =>
    unfold Machine.judgeDim
    dsimp only
    split
    · exact h.removed _
    · exact h.setCell rfl
  | none => exact h

/-- A cell verdict keeps the agreement, by the condition that the cell holds (R46). -/
theorem TableInRun.takeCellVerdict (h : TableInRun s) (v : CellVerdict) : TableInRun (takeCellVerdict v s) := by
  have recorded : TableInRun (s.changeCell v.cell fun r => r.recorded (v.judgement.compensated s.cfg.gMax) v) :=
    h.setCell rfl
  have stands : ((s.changeCell v.cell fun r => r.recorded (v.judgement.compensated s.cfg.gMax) v).cell
      v.cell).condition = (s.cell v.cell).condition := by rw [cell_changeCell_same]; rfl
  unfold Machine.takeCellVerdict
  dsimp only
  split
  · rename_i hc
    exact recorded.judgeGood (stands.trans hc) _
  · rename_i hc
    exact recorded.judgeSuspect (stands.trans hc) _
  · rename_i hc
    exact recorded.judgeDim (stands.trans hc) _
  · exact recorded

end Verdicts

end Kept

end Sys2Proof.Machine
end

section
/-! Every command and every step keeps the remap table in agreement with the records: in RUN by what each operation does to the table, outside RUN because the ports are OFF and nothing is handed on (R45, R62, R153, R167). The changes that PartKept lists say nothing of the remap table, so the commands are gone through for it here. -/

namespace Sys2Proof.Machine

/-! ## What the agreement speaks of -/

/-- Each port's state and the attempt on its line (R153, R157). -/
def State.lines (s : State) : PerPort (PortState × Option (List Bool)) :=
  s.ports.map fun port => (port.state, port.attempt)

/-- The parts of the state that the agreement of table and records speaks of. -/
def State.tableView (s : State) : Mode × LoadPhase × Handed × PerPort (PortState × Option (List Bool)) ×
    List (Cell × Condition) × Tbl 1024 CellRecord :=
  (s.mode, s.loadPhase, s.handed, s.lines, s.listing, s.cells)

theorem lines_get (s : State) (p : PortId) : s.lines.get p = ((s.port p).state, (s.port p).attempt) :=
  PerPort.get_map _ _ _

theorem TableSound.same {s t : State} (h : TableSound s) (e : t.tableView = s.tableView) : TableSound t := by
  simp only [State.tableView, Prod.mk.injEq] at e
  obtain ⟨mode, phase, handed, lines, listing, cells⟩ := e
  have shown : t.shown = s.shown := by
    funext c
    unfold State.shown State.cell
    rw [cells]
  obtain ⟨quiet, listed⟩ := (tableSound_iff s).mp h
  refine (tableSound_iff t).mpr ⟨fun off => ?_, by rw [listing, shown]; exact listed⟩
  obtain ⟨ports, nothing, empty⟩ := quiet (mode ▸ off)
  refine ⟨fun p => ?_, handed.trans nothing, fun more => ?_⟩
  · have line := congrArg (fun l => PerPort.get l p) lines
    simp only [lines_get, Prod.mk.injEq] at line
    rw [line.1, line.2]
    exact ports p
  · rw [← listing_eq_nil, listing, listing_eq_nil]
    exact empty (phase ▸ more)

/-- A port written with the state and the attempt it has leaves the lines. -/
theorem setPort_tableView (s : State) (p : PortId) {port : Port} (state : port.state = (s.port p).state)
    (attempt : port.attempt = (s.port p).attempt) : (s.setPort p port).tableView = s.tableView := by
  have lines : (s.setPort p port).lines = s.lines := by
    cases p
    · exact PerPort.mk.injEq .. ▸ ⟨Prod.ext state attempt, rfl⟩
    · exact PerPort.mk.injEq .. ▸ ⟨rfl, Prod.ext state attempt⟩
  unfold State.tableView
  rw [lines]
  rfl

theorem enqueue_tableView (p : PortId) (n : Notice) (s : State) : (enqueue p n s).tableView = s.tableView := by
  unfold enqueue
  split
  · unfold enqueueAnswer
    dsimp only
    split
    · exact setPort_tableView s p rfl rfl
    · rfl
  · unfold enqueueNotice
    dsimp only
    split
    · exact setPort_tableView s p rfl rfl
    · split
      · exact setPort_tableView s p rfl rfl
      · rfl

/-- The operations on remedies keep the agreement, in RUN or not. -/
theorem tableSound_kept : RemedyKept TableSound where
  enqueue p n s h := h.same (enqueue_tableView p n s)
  remedy c r s h := by
    refine h.same ?_
    unfold State.tableView
    rw [listing_changeEntry s c (fun e => withRemedy_cell e r) fun e => withRemedy_isRetired e r]
    rfl
  site _ _ _ h := h.same rfl
  mark _ _ _ _ h := h.same rfl

/-! ## Outside RUN (R153, R167) -/

section Outside

variable {s : State}

theorem TableSound.quiet (h : TableSound s) : QuietOutsideRun s := ((tableSound_iff s).mp h).1

/-- A port that reads its line is a port of RUN. -/
theorem TableSound.run_of_reads (h : TableSound s) {p : PortId} (reads : (s.port p).state ≠ .off) : s.mode = .run := by
  by_contra off
  exact reads ((h.quiet off).1 p).1

theorem TableSound.run_of_handed (h : TableSound s) (some : s.handed ≠ Handed.nothing) : s.mode = .run := by
  by_contra off
  exact some (h.quiet off).2.1

/-- The blocks take what is handed on in RUN alone. -/
theorem TableSound.handedOn (h : TableSound s) (some : s.handed ≠ Handed.nothing) (handed : Handed) :
    TableInRun { s with handed := handed } := (h.inRun (h.run_of_handed some)).same ⟨rfl, rfl, rfl⟩

/-- A line's event at a port that is OFF with no attempt on the line changes nothing (R153). -/
theorem TableSound.port (h : TableSound s) (p : PortId) {port : Port}
    (stands : (s.port p).state = .off → (s.port p).attempt = none → port = s.port p) :
    TableSound (s.setPort p port) := by
  by_cases run : s.mode = .run
  · exact TableInRun.sound ((h.inRun run).same ⟨rfl, rfl, rfl⟩)
  · obtain ⟨state, attempt⟩ := (h.quiet run).1 p
    rw [stands state attempt]
    exact h.same (setPort_tableView s p rfl rfl)

/-- The load goes on to another phase while the table is empty (R167). -/
theorem TableSound.nextPhase (h : TableSound s) {phase : LoadPhase} (loads : s.loadsAt phase = true)
    (more : phase ≠ .complete) (next : LoadPhase) : TableSound { s with loadPhase := next } := by
  obtain ⟨loading, at_⟩ : s.mode = .loading ∧ s.loadPhase = phase := by simpa [State.loadsAt] using loads
  obtain ⟨quiet, listed⟩ := (tableSound_iff s).mp h
  obtain ⟨ports, nothing, empty⟩ := quiet (by simp [loading])
  exact (tableSound_iff _).mpr ⟨fun _ => ⟨ports, nothing, fun _ => empty (at_ ▸ more)⟩, listed⟩

/-- Every block at its cleared values (R167). -/
theorem tableSound_cleared (ports : ∀ p, s.port p = Port.cleared) (nothing : s.handed = Handed.nothing)
    (empty : s.entries = []) (cells : ∀ c, s.cell c = CellRecord.initial) : TableSound s := by
  refine ⟨fun _ => ⟨fun p => by rw [ports p]; exact ⟨rfl, rfl⟩, nothing, fun _ => empty⟩, by simp [empty],
    by simp [empty], fun c => ?_⟩
  unfold State.entryOf
  rw [empty, cells]
  exact Or.inl rfl

theorem tableSound_startPart (straps : Pos) (s : State) : TableSound (startPart straps s) :=
  tableSound_cleared (starting_port _ _ _) rfl rfl (starting_cell _ _ _)

theorem tableSound_holdPart (s : State) : TableSound (holdPart s) :=
  tableSound_cleared (s := holdPart s) (starting_port s.position s.supply.input s.pending) rfl rfl
    (starting_cell s.position s.supply.input s.pending)

/-! ## The retired list (R174) -/

/-- A slot taken at the load enters its cell once and makes its record agree. -/
theorem loadSlot_listed (bytes : Tbl 512 Byte) (slot : Fin 128) (h : Listed s.listing s.shown)
    (free : s.entries.length < 128) : Listed (loadSlot bytes s slot).listing (loadSlot bytes s slot).shown ∧
      (loadSlot bytes s slot).entries.length ≤ s.entries.length + 1 := by
  unfold loadSlot
  split
  case h_4 c live =>
    split
    · exact ⟨h, Nat.le_succ _⟩
    · rename_i new
      have unlisted : s.shown c = none := by
        cases shown : s.shown c with
        | none => rfl
        | some k =>
          have mem := (h.agrees c k).mpr shown
          rw [mem_listing (listing_cells s ▸ h.once)] at mem
          obtain ⟨e, entry, _⟩ := Option.map_eq_some_iff.mp mem
          exact absurd (by rw [entry]; rfl) new
      have listing : (retireStored c (s.setSlot slot (.live c))).listing = s.listing ++ [(c, .retired)] :=
        listing_append s ⟨c, .stored, .retired none 0 true⟩
      have shown : (retireStored c (s.setSlot slot (.live c))).shown = Function.update s.shown c (some .retired) :=
        shown_setCell _ c _
      rw [listing, shown]
      refine ⟨h.append unlisted ((listing_length s).trans_lt free) .retired, ?_⟩
      rw [← listing_length, listing, List.length_append, listing_length]
      exact Nat.le_refl _
  all_goals exact ⟨h, Nat.le_succ _⟩

theorem foldl_loadSlot_listed (bytes : Tbl 512 Byte) (slots : List (Fin 128)) {s : State}
    (h : Listed s.listing s.shown) (free : s.entries.length + slots.length ≤ 128) :
    Listed (slots.foldl (loadSlot bytes) s).listing (slots.foldl (loadSlot bytes) s).shown := by
  induction slots generalizing s with
  | nil => exact h
  | cons slot slots ih =>
    rw [List.length_cons] at free
    obtain ⟨listed, length⟩ := loadSlot_listed bytes slot h (by omega)
    exact ih listed (by omega)

theorem TableSound.takeRetiredList (h : TableSound s) (loads : s.loadsAt .retiredList = true) (bytes : Tbl 512 Byte) :
    TableSound (takeRetiredList bytes s) := by
  obtain ⟨loading, at_⟩ : s.mode = .loading ∧ s.loadPhase = .retiredList := by simpa [State.loadsAt] using loads
  obtain ⟨quiet, listed⟩ := (tableSound_iff s).mp h
  obtain ⟨ports, nothing, empty⟩ := quiet (by simp [loading])
  have none : s.entries = [] := empty (by simp [at_])
  have only := (loadedUpTo_all bytes none).only
  have port (p : PortId) : (Machine.takeRetiredList bytes s).port p = s.port p := only.port p
  refine (tableSound_iff _).mpr ⟨fun _ => ⟨fun p => ?_, only.handed.trans nothing, fun more => absurd rfl more⟩,
    foldl_loadSlot_listed bytes _ listed (by simp [none])⟩
  rw [port p]
  exact ports p

end Outside

/-! ## In RUN -/

/-- Entry to RUN leaves the table as the load made it (R175). -/
theorem tableInRun_enterRun {s : State} (listed : Listed s.listing s.shown) : TableInRun (enterRun s) := by
  have tables : TableInRun (enterRunTables s) := ⟨rfl, listed⟩
  have supplied := (tableInRun_seam.chooseStored _ tables).same
    (t := startProbe (startSupply (chooseStored (enterRunTables s)))) ⟨rfl, rfl, rfl⟩
  have voids := foldl_keeps (P := TableInRun) (f := fun t slot => queueWrite (.void slot) t)
    (fun t _ ht => ht.same (queueWrite_sameTable _ t))
    (startProbe (startSupply (chooseStored (enterRunTables s)))).store.duplicates _ supplied
  exact tableInRun_seam.refresh _ (voids.same ⟨rfl, rfl, rfl⟩)

section InRun

variable {s : State} (h : TableInRun s)
include h

/-- Clearing the evidence leaves what each condition calls for: SUSPECT becomes GOOD, neither has an entry (R58). -/
theorem TableInRun.evidenceCleared {t : State} (mode : t.mode = s.mode) (listing : t.listing = s.listing)
    (cells : t.cells = s.cells.map CellRecord.evidenceCleared) : TableInRun t := by
  have shown : t.shown = s.shown := by
    funext c
    unfold State.shown State.cell
    rw [cells, Tbl.get_map]
    unfold CellRecord.evidenceCleared
    cases (s.cells.get c.index).condition <;> rfl
  exact ⟨mode.trans h.run, by rw [listing, shown]; exact h.listed⟩

theorem TableInRun.sectionRestart : TableInRun (sectionRestart s) := by
  have k := tableInRun_seam
  have dropped := k.dropLost false (fun _ => true) _ (k.freeLost false (fun _ => true) _
    (h.same (t := restartSeam s) ⟨rfl, rfl, rfl⟩))
  have cleared {t : State} (ht : TableInRun t) : TableInRun (restartEvidence t) := ht.evidenceCleared rfl rfl rfl
  exact k.refresh _ (k.rechooseAll _ _ _ (cleared dropped))

theorem TableInRun.rescanPart : TableInRun (rescanPart s) :=
  tableInRun_seam.rechooseAll _ _ _ (h.evidenceCleared rfl rfl rfl)

theorem TableInRun.clearRetiredList : TableInRun (clearRetiredList s) := by
  have rebuilt : SameTable s s.listsRebuilt :=
    ⟨rfl, listing_map s (fun e => withPersisted_cell e false) fun e => withPersisted_isRetired e false, rfl⟩
  unfold Machine.clearRetiredList
  split
  · exact h
  · dsimp only
    split <;> exact (h.same rebuilt).same ⟨rfl, rfl, rfl⟩

theorem TableInRun.carryOut (command : ServiceCommand) : TableInRun (carryOut command s).1 := by
  cases command with
  | querySummary | queryEntry => exact h
  | queryCell x y => unfold Machine.carryOut; dsimp only; split <;> exact h
  | querySite i j => unfold Machine.carryOut; dsimp only; split <;> exact h
  | mark x y => exact onCell_keeps x y s h h.markCellRetired
  | restore x y => exact onCell_keeps x y s h h.restoreCell
  | rescan => exact h.rescanPart
  | clearFlags => exact h.same ⟨rfl, rfl, rfl⟩
  | clearRetired => exact h.clearRetiredList

theorem TableInRun.serviceRequest (rx : Rx) (tag code : Byte) (arguments : List Byte) :
    TableInRun (serviceRequest rx tag code arguments s) := by
  have tagged : TableInRun (s.setLastTag rx.port tag) := h.same ⟨rfl, rfl, rfl⟩
  have handled : TableInRun (handleRequest rx.port tag code arguments s).1 := by
    unfold handleRequest
    split
    · exact tagged
    · dsimp only
      split
      · exact tagged
      · exact tagged.carryOut _
  unfold Machine.serviceRequest
  split
  · split
    · exact h.same ⟨rfl, rfl, rfl⟩
    · exact foldl_keeps (fun t _ ht => tableInRun_seam.enqueue _ _ t ht) _ _ handled
  · exact h

theorem TableInRun.senseReport (number : Fin 256) (samples : List Sample) :
    TableInRun (senseReport number samples s) := by
  have ended (t : State) (same : SameTable s t) : TableInRun (endPass t) := by
    rw [endPass_eq]
    exact (h.same same).same ⟨rfl, rfl, rfl⟩
  unfold Machine.senseReport takeReport
  split
  · split
    · split
      · split
        · dsimp only
          split
          · exact ended _ ⟨rfl, rfl, rfl⟩
          · exact h.same ⟨rfl, rfl, rfl⟩
        · exact h.same ⟨rfl, rfl, rfl⟩
      · exact h
    · exact h
  · exact h

end InRun

/-! ## Notices: read in RUN alone (R153) -/

section Notices

variable {s : State} (h : TableSound s)
include h

theorem TableSound.receive (rx : Rx) {act : State → State} (ha : ∀ t, TableInRun t → TableInRun (act t)) :
    TableSound (receive rx act s) := by
  by_cases off : (s.port rx.port).state = .off
  · rw [receive_off off]
    exact h
  · exact (tableInRun_seam.receive rx act ha s (h.inRun (h.run_of_reads off))).sound

theorem TableSound.receiveRequest (rx : Rx) (tag code : Byte) (arguments : List Byte) :
    TableSound (receiveRequest rx tag code arguments s) := by
  unfold Machine.receiveRequest
  split
  · exact h.receive rx fun t ht => ht.serviceRequest rx tag code arguments
  · exact h

theorem TableSound.receiveNotice (p : PortId) (n : Notice) : TableSound (receiveNotice p n s) := by
  have k := tableInRun_seam
  have toSeam (rx : Rx) {act : Dir → State → State} (ha : ∀ d t, TableInRun t → TableInRun (act d t)) :
      TableSound (receiveFromNeighbour rx act s) := by
    refine h.receive rx fun t ht => ?_
    split
    · exact ht
    · exact ha _ t ht
  obtain ⟨src, dst, body⟩ := n
  unfold Machine.receiveNotice
  dsimp only
  cases body with
  | sectionRestart =>
    refine h.receive _ fun t ht => ?_
    split
    · exact ht.sectionRestart
    · exact ht
  | grant site c => exact toSeam _ fun d => k.takeGrant d site c
  | refuse site c reason => exact toSeam _ fun d => k.takeRefuse d site c reason
  | wait site c => exact toSeam _ fun d => k.takeWait d site c
  | revoke site c => exact toSeam _ fun d => k.takeRevoke d site c
  | release site c => exact toSeam _ fun d => k.takeRelease d site c
  | claim c site _ => exact toSeam _ fun d => k.takeClaim d c site
  | holdList pairs => exact toSeam _ fun d => k.takeHoldList d pairs
  | loanList pairs => exact toSeam _ fun d => k.takeLoanList d pairs
  | fillList edge positions => exact toSeam _ fun d => k.takeFillList d edge positions
  | serviceRequest tag code arguments => exact h.receive _ fun t ht => ht.serviceRequest _ tag code arguments
  | report tag kind bytes => exact h.receive _ fun _ ht => ht

end Notices

/-! ## Silence, the refresh, video and the store -/

section Blocks

variable {s : State} (h : TableSound s)
include h

theorem TableSound.silenceNeighbour (d : Dir) : TableSound (silenceNeighbour d s) := by
  have k := tableSound_kept
  unfold Machine.silenceNeighbour
  split
  · exact h
  · split
    · exact k.dropLost _ _ _ (k.freeLost _ _ _ (h.same rfl))
    · exact h

theorem TableSound.refresh : TableSound (refresh s) :=
  (foldl_keeps (f := fun t d => sendLists d t) (fun t d => tableSound_kept.sendLists d t) Dir.all s h).same rfl

theorem TableSound.receiveCode (code : Code) : TableSound (receiveCode code s) := by
  unfold Machine.receiveCode frameStart
  split
  · exact h
  · split
    · split <;> exact h.same rfl
    · exact h.same rfl

theorem TableSound.completeAppend (c : Cell) : TableSound (completeAppend c s) := by
  unfold Machine.completeAppend
  split
  · exact h
  · refine h.same ?_
    unfold State.tableView
    rw [listing_changeEntry s c (fun e => withPersisted_cell e true) fun e => withPersisted_isRetired e true]
    rfl

theorem TableSound.beginAppend (c : Cell) (o : Origin) : TableSound (beginAppend c o s) := by
  unfold Machine.beginAppend
  split
  · exact h.completeAppend c
  · split <;> exact h.same rfl

theorem TableSound.beginWrite : TableSound (beginWrite s) := by
  unfold Machine.beginWrite
  split
  · split
    · refine TableSound.beginAppend ?_ _ _
      exact h.same rfl
    · split
      · refine TableSound.beginAppend ?_ _ _
        exact h.same rfl
      · exact h.same rfl
      · exact h.same rfl
  · exact h

theorem TableSound.endWrite (completed : Bool) : TableSound (endWrite completed s) := by
  have erased {t : State} (ht : TableSound t) : TableSound (eraseIfWaiting t) := by
    unfold eraseIfWaiting
    split
    · exact ht.same rfl
    · exact ht
  unfold Machine.endWrite
  split
  · refine erased ?_
    split
    · refine TableSound.completeAppend ?_ _
      exact h.same rfl
    · exact h.same rfl
  · refine erased ?_
    split <;> exact h.same rfl
  · exact h

theorem TableSound.endErase (finished : Bool) : TableSound (endErase finished s) := by
  unfold Machine.endErase
  dsimp only
  split <;> exact h.same rfl

theorem TableSound.portFailed (p : PortId) : TableSound (portFailed p s) := by
  have failed : TableSound (s.setPort p (s.port p).failed) :=
    h.port p fun _ attempt => if_pos attempt
  unfold Machine.portFailed
  dsimp only
  split
  · exact failed.same rfl
  · exact failed

end Blocks

/-! ## Every command -/

/-- Every command keeps the table in agreement with the records. -/
theorem TableSound.after {s : State} (h : TableSound s) (c : Instr) : TableSound (s.after c) := by
  have k := tableSound_kept
  have ite {p : Prop} [Decidable p] {t u : State} (ht : p → TableSound t) (hu : TableSound u) :
      TableSound (if p then t else u) := by
    split
    · rename_i hp
      exact ht hp
    · exact hu
  have seam (rx : Rx) (body : NoticeBody) : TableSound (Machine.receiveNotice rx.port ⟨rx.src, rx.dst, body⟩ s) :=
    h.receiveNotice rx.port _
  cases c with
  | powerOn straps => exact tableSound_startPart straps s
  | resetAssert => exact tableSound_holdPart s
  | resetRelease straps => exact tableSound_startPart straps s
  | storeReadyAtLoad => exact ite (fun at_ => (h.nextPhase at_ nofun .configuration).same rfl) h
  | storeMissingTimeout => exact ite (fun at_ => (h.nextPhase at_ nofun .complete).same rfl) h
  | configRecordRead bytes =>
    exact ite (fun at_ => (h.nextPhase at_ nofun .calibration).same (by unfold takeRecord; split <;> rfl)) h
  | calibrationAreaRead bytes =>
    refine ite (fun at_ => (h.nextPhase at_ nofun .retiredList).same ?_) h
    unfold takeCalibration
    split <;> simp only [State.tableView, State.lines, State.listing]
  | retiredListRead bytes => exact ite (fun at_ => h.takeRetiredList at_ bytes) h
  | enterRun => exact ite (fun _ => (tableInRun_enterRun ((tableSound_iff s).mp h).2).sound) h
  | frameBeginMarker => exact ite (fun _ => h) (h.same rfl)
  | videoCode code => exact ite (fun _ => h) (h.receiveCode code)
  | driveFrameSent => exact h.same rfl
  | lossTimerLost | lossTimerDark | reEmitTick | darkFrameTick => exact ite (fun _ => h.same rfl) h
  | senseReport number samples =>
    by_cases run : s.mode = .run
    · exact ((h.inRun run).senseReport number samples).sound
    · have discarded : s.after (.senseReport number samples) = s := if_neg run
      rw [discarded]
      exact h
  | stallTimerExpiry => exact ite (fun _ => h) (h.same rfl)
  | overrideAppend =>
    show TableSound (settled s (execOverrideAppend s))
    unfold execOverrideAppend
    split
    · exact h
    · rename_i asked
      exact ((h.handedOn (by rintro none; rw [none] at asked; cases asked) _).same ⟨rfl, rfl, rfl⟩).sound
  | supplyLow => exact ite (fun _ => h.same rfl) (h.same rfl)
  | supplyHigh => exact ite (fun _ => h.same rfl) (h.same rfl)
  | cellVerdict =>
    show TableSound (settled s (execCellVerdict s))
    unfold execCellVerdict
    split
    · exact h
    · rename_i handed
      exact ((h.handedOn (by rintro none; rw [none] at handed; cases handed) _).takeCellVerdict _).sound
  | siteVerdict =>
    show TableSound (settled s (execSiteVerdict s))
    unfold execSiteVerdict
    split
    · exact h
    · rename_i handed
      exact (tableInRun_seam.takeSiteVerdict _ _ (h.handedOn (by rintro none; rw [none] at handed; cases handed) _)).sound
  | sweepEnd =>
    show TableSound (if s.handed.sweepEnds = 0 then s else _)
    split
    · exact h
    · rename_i handed
      exact (tableInRun_seam.takeSweepEnd _ (h.handedOn (by rintro none; rw [none] at handed; exact handed rfl) _)).sound
  | claimRetryExpiry cell => exact k.retryClaim cell s h
  | holdExpiry site => exact k.endHold site s h
  | neighbourSilent d => exact h.silenceNeighbour d
  | refreshTimerExpiry => exact ite (fun _ => h) h.refresh
  | idleGapAttempt p => exact h.port p fun off _ => if_neg (by simp [off])
  | attemptWon p => exact h.port p fun _ attempt => if_pos attempt
  | contentionLost p => exact h.port p fun _ attempt => if_pos attempt
  | attemptFailed p => exact h.portFailed p
  | quietTimerExpiry p => exact h.port p fun off _ => if_neg (by simp [off])
  | noticeMalformed p bits =>
    show TableSound (settled s (execNoticeMalformed p bits s))
    unfold execNoticeMalformed
    cases readNotice bits with
    | none => exact h
    | some n => exact h.receiveNotice p n
  | claimReceived rx c site n => exact seam rx (.claim c site n)
  | grantReceived rx site c => exact seam rx (.grant site c)
  | waitReceived rx site c => exact seam rx (.wait site c)
  | refuseReceived rx site c reason => exact seam rx (.refuse site c reason)
  | revokeReceived rx site c => exact seam rx (.revoke site c)
  | releaseReceived rx site c => exact seam rx (.release site c)
  | holdListReceived rx pairs => exact ite (fun _ => seam rx (.holdList pairs)) h
  | loanListReceived rx pairs => exact ite (fun _ => seam rx (.loanList pairs)) h
  | fillListReceived rx edge positions => exact ite (fun _ => seam rx (.fillList edge positions)) h
  | reportReceived rx tag kind body => exact ite (fun _ => seam rx (.report tag kind body)) h
  | sectionRestart rx => exact seam rx .sectionRestart
  | querySummary rx tag => exact h.receiveRequest rx tag 0 []
  | queryCell rx tag x y => exact h.receiveRequest rx tag 1 [x, y]
  | querySite rx tag i j => exact h.receiveRequest rx tag 2 [i, j]
  | queryEntry rx tag n => exact h.receiveRequest rx tag 3 [n]
  | mark rx tag x y => exact h.receiveRequest rx tag 4 [x, y]
  | restore rx tag x y => exact h.receiveRequest rx tag 5 [x, y]
  | rescan rx tag => exact h.receiveRequest rx tag 6 []
  | clearFlags rx tag => exact h.receiveRequest rx tag 7 []
  | clearRetired rx tag => exact h.receiveRequest rx tag 8 []
  | serviceRequestUnknown rx tag code arguments => exact h.receiveRequest rx tag code arguments
  | storeWriteBegin => exact h.beginWrite
  | storeWriteEnd error readBack => exact ite (fun _ => h.endWrite _) h
  | storeWriteTimeout => exact ite (fun _ => h.endWrite _) h
  | storeEraseEnd error => exact ite (fun _ => h.endErase _) h
  | storeEraseTimeout => exact ite (fun _ => h.endErase _) h

/-! ## Every step -/

section Steps

variable {P : State → Prop} (after : ∀ s c, P s → P (s.after c)) (counted : ∀ s, P s → P s.timersCounted)
include after

theorem whenDue_keeps (isDue : Bool) (c : Instr) (s : State) (h : P s) : P (s.whenDue isDue c) := by
  unfold State.whenDue
  split
  · exact after s c h
  · exact h

include counted

/-- A tick keeps what its commands and the count of the timers keep (log entry 6). -/
theorem ticked_keeps (s : State) (h : P s) : P s.ticked := by
  have due := whenDue_keeps after
  have hold (t : State) (site : Site) (ht : P t) : P (t.holdTick site) := by
    unfold State.holdTick
    split
    · exact due _ _ t ht
    · exact ht
  have retry (t : State) (c : Cell) (ht : P t) : P (t.retryTick c) := by
    unfold State.retryTick
    split
    · exact due _ _ t ht
    · exact ht
  have silence (t : State) (d : Dir) (ht : P t) : P (t.silenceTick d) := by
    unfold State.silenceTick
    split
    · exact due _ _ t ht
    · exact ht
  have intake (t : State) (ht : P t) : P t.intakeTick := by
    unfold State.intakeTick
    split
    · exact due _ _ t ht
    · split <;> exact after t _ ht
    · exact after t _ ht
  have store (t : State) (ht : P t) : P t.storeTick := by
    unfold State.storeTick
    split <;> exact due _ _ t ht
  unfold State.ticked
  refine store _ (due _ _ _ (due _ _ _ (due _ _ _ ?_)))
  refine foldl_keeps silence _ _ (foldl_keeps retry _ _ (foldl_keeps hold _ _ ?_))
  exact due _ _ _ (intake _ (counted _ (after _ _ (after _ _ h))))

/-- A step keeps what every command, the count of the timers and the taking of a command from the queue keep. -/
theorem step_keeps (queue : ∀ waiting s, P s → P { s with pending := waiting }) {s t : State} (h : P s)
    (e : step s = .next t) : P t := by
  have idles (s : State) (h : P s) : P (idle s) := by
    rw [idle_eq]
    split
    · exact h
    · split_ifs
      case neg => exact ticked_keeps after counted s h
      all_goals exact after s _ h
  unfold step at e
  split at e
  · obtain rfl := Host.Outcome.next.inj e
    exact idles s h
  · rw [exec_after] at e
    obtain rfl := Host.Outcome.next.inj e
    exact after _ _ (queue _ s h)

end Steps

theorem ticked_cell (e : Entry) : e.ticked.cell = e.cell := by
  unfold Entry.ticked
  split
  · exact withRemedy_cell e _
  · rfl

theorem ticked_isRetired (e : Entry) : e.ticked.isRetired = e.isRetired := by
  unfold Entry.ticked
  split
  · exact withRemedy_isRetired e _
  · rfl

theorem TableSound.timersCounted {s : State} (h : TableSound s) : TableSound s.timersCounted := by
  refine h.same ?_
  have listing : (advanceTimers s).listing = s.listing := listing_map s ticked_cell ticked_isRetired
  rw [timersCounted_eq]
  unfold State.tableView
  rw [listing]
  rfl

/-- Settles O58: every command and the count of the timers keep the agreement, so every step does. -/
theorem stepKeepsTableSound : Obligations.StepKeepsTableSound :=
  fun _ _ h e => step_keeps (P := TableSound) (fun _ c h => TableSound.after h c) (fun _ => TableSound.timersCounted)
    (fun _ _ h => TableSound.same h rfl) h e

end Sys2Proof.Machine
end

section
/-! The verdicts on cells: what each judgement makes of a cell in each condition, below the depth of its run and at it (R43, R46 to R54, R66 to R70, R177). -/

namespace Sys2Proof.Machine

/-! ## Records written one after another -/

theorem setCell_setCell (s : State) (c : Cell) (r r' : CellRecord) : (s.setCell c r).setCell c r' = s.setCell c r' := by
  simp [State.setCell]

theorem withRuns_turned {r : CellRecord} {c : Condition} (h : r.condition = c) : r.withRuns 0 0 0 = r.turned c := by
  subst h
  rfl

/-! ## Entries in their places -/

/-- The oldest DIM entry is the first that is not RETIRED (R67). -/
theorem oldestDim_append {older newer : List Entry} {e : Entry} (retired : ∀ x ∈ older, x.isRetired = true)
    (dim : e.isRetired = false) : oldestDim (older ++ e :: newer) = some e := by
  unfold oldestDim
  rw [List.find?_append, List.find?_eq_none.mpr fun x hx => by simp [retired x hx], Option.none_or]
  exact List.find?_cons_of_pos (by simp [dim])

theorem oldestDim_none {es : List Entry} (retired : ∀ x ∈ es, x.isRetired = true) : oldestDim es = none :=
  List.find?_eq_none.mpr fun x hx => by simp [retired x hx]

theorem converted_dim {e : Entry} (dim : e.isRetired = false) (o : Origin) (n : Nat) :
    e.converted o n = ⟨e.cell, o, .retired none n false⟩ := by
  obtain ⟨c, origin, body⟩ := e
  cases body with
  | dim gains => rfl
  | retired remedy at_ persisted => cases dim

theorem converted_retired {e : Entry} (retired : e.isRetired = true) (o : Origin) (n : Nat) : e.converted o n = e := by
  obtain ⟨c, origin, body⟩ := e
  cases body with
  | dim gains => cases retired
  | retired remedy at_ persisted => rfl

/-- A conversion in the words of the statements: the cell's DIM entry alone is written anew (R68). -/
theorem changeEntry_converted (c : Cell) (o : Origin) (n : Nat) (es : List Entry) :
    changeEntry c (fun e => e.converted o n) es = es.map fun e =>
      if e.cell = c ∧ e.isRetired = false then ⟨e.cell, o, .retired none n false⟩ else e := by
  refine List.map_congr_left fun e _ => ?_
  by_cases here : e.cell = c
  · cases kind : e.isRetired with
    | false => simp [here, converted_dim kind]
    | true => simp [here, converted_retired kind]
  · simp [here]

/-- The state with a cell's DIM entry written anew as RETIRED, with no remedy yet (R68). -/
def State.converted (s : State) (c : Cell) (o : Origin) (n : Nat) : State :=
  s.setEntries (s.entries.map fun e =>
    if e.cell = c ∧ e.isRetired = false then ⟨e.cell, o, .retired none n false⟩ else e)

/-! ## A cell RETIRED, in the words of the statements (R52, R54, R67, R68) -/

section Retired

variable (s : State) (c : Cell) (o : Origin) (n : Nat)

theorem appendRetired_setCell (d : Cell) (r : CellRecord) :
    appendRetired c o n (s.setCell d r) = (appendRetired c o n s).setCell d r := by
  unfold appendRetired
  rw [← retire_setCell]
  rfl

theorem appendRetired_cell (d : Cell) : (appendRetired c o n s).cell d = s.cell d := by
  have same : (appendRetired c o n s).cells = s.cells := (retire_sameTable c o _).cells
  unfold State.cell
  rw [same]

theorem newlyRetired_eq : s.newlyRetired c o n = (appendRetired c o n s).setCell c ((s.cell c).turned .retired) := by
  rw [← appendRetired_cell s c o n c]
  rfl

/-- The evicted cell's record is GOOD with all runs 0, and was read before the eviction (R54). -/
theorem newlyRetired_changeCell {d : Cell} (apart : d ≠ c) :
    ((s.without d).newlyRetired c o n).changeCell d (fun r => r.becomes .good) =
      ((appendRetired c o n (s.without d)).setCell c ((s.cell c).turned .retired)).setCell d
        ((s.cell d).turned .good) := by
  rw [newlyRetired_eq]
  unfold State.changeCell
  rw [cell_setCell, if_neg (Ne.symm apart), appendRetired_cell]
  rfl

/-- A DIM entry converted where it stands and its cell RETIRED (R50, R56, R68). -/
theorem convertEntry_changeCell {e : Entry} (entry : s.entryOf c = some e) (dim : e.isRetired = false) :
    (convertEntry c o n s).changeCell c (fun r => r.becomes .retired) =
      (storeAppend c o (chooseRemedy true c (s.converted c o n))).setCell c ((s.cell c).turned .retired) := by
  have same := retire_sameTable c o (s.converted c o n)
  have converted : convertEntry c o n s = storeAppend c o (chooseRemedy true c (s.converted c o n)) := by
    rw [convertEntry_dim entry dim, changeEntry_converted]
    rfl
  rw [converted]
  unfold State.changeCell State.cell
  rw [same.cells]
  rfl

/-- A DIM entry taken out and its cell GOOD (R50, R57). -/
theorem removeEntry_changeCell_dim {e : Entry} (entry : s.entryOf c = some e) (dim : e.isRetired = false) :
    (removeEntry c s).changeCell c (fun r => r.becomes .good) = (s.without c).setCell c ((s.cell c).turned .good) := by
  rw [removeEntry_dim entry dim]
  rfl

end Retired

/-! ## What a run at its depth comes to, with the record just written (R52, R53) -/

section Detected

variable {s : State} {c : Cell} {n : Nat} (r : CellRecord)

theorem retireDetected_setCell_room (room : s.entries.length < 128) :
    retireDetected c n (s.setCell c r) = (appendRetired c .detected n s).setCell c (r.turned .retired) := by
  rw [retireDetected_room (s := s.setCell c r) room, newlyRetired_eq, cell_setCell_same, appendRetired_setCell,
    setCell_setCell]

theorem retireDetected_setCell_refused (full : 128 ≤ s.entries.length) (none : oldestDim s.entries = none) :
    retireDetected c n (s.setCell c r) =
      (s.setCell c { r.turned .suspect with faultRun := s.cfg.k }).raise .tableFull := by
  rw [retireDetected_refused (s := s.setCell c r) (Nat.not_lt.mpr full) none]
  unfold State.changeCell
  rw [setCell_setCell, cell_setCell_same]
  rfl

theorem retireDetected_setCell_evicts {e : Entry} (full : 128 ≤ s.entries.length)
    (oldest : oldestDim s.entries = some e) (apart : e.cell ≠ c) : retireDetected c n (s.setCell c r) =
      ((appendRetired c .detected n (s.without e.cell)).setCell c (r.turned .retired)).setCell e.cell
        ((s.cell e.cell).turned .good) := by
  have commute : (s.setCell c r).without e.cell = (s.without e.cell).setCell c r := rfl
  rw [retireDetected_evicts (s := s.setCell c r) (Nat.not_lt.mpr full) oldest, newlyRetired_changeCell _ _ _ _ apart,
    cell_setCell_same, cell_setCell, if_neg (Ne.symm apart), commute, appendRetired_setCell, setCell_setCell]

theorem dimDetected_setCell_room (gains : Rgb Nat) (room : s.entries.length < 128) :
    dimDetected c gains (s.setCell c r) =
      (s.setEntries (s.entries ++ [⟨c, .detected, .dim gains⟩])).setCell c (r.turned .dim) := by
  have commute (es : List Entry) : (s.setCell c r).setEntries es = (s.setEntries es).setCell c r := rfl
  rw [dimDetected_room (s := s.setCell c r) room, commute]
  unfold State.changeCell
  rw [setCell_setCell, cell_setCell_same]
  rfl

theorem dimDetected_setCell_refused (gains : Rgb Nat) (full : 128 ≤ s.entries.length) :
    dimDetected c gains (s.setCell c r) =
      (s.setCell c { r.turned .good with weakRun := s.cfg.kDim }).raise .tableFull := by
  rw [dimDetected_refused (s := s.setCell c r) (Nat.not_lt.mpr full)]
  unfold State.changeCell
  rw [setCell_setCell, cell_setCell_same]
  rfl

theorem convertEntry_setCell_dim {e : Entry} (entry : s.entryOf c = some e) (dim : e.isRetired = false) (o : Origin) :
    (convertEntry c o n (s.setCell c r)).changeCell c (fun r => r.becomes .retired) =
      (storeAppend c o (chooseRemedy true c (s.converted c o n))).setCell c (r.turned .retired) := by
  have commute : (s.setCell c r).converted c o n = (s.converted c o n).setCell c r := rfl
  rw [convertEntry_changeCell (s.setCell c r) c o n entry dim, cell_setCell_same, commute, retire_setCell,
    setCell_setCell]

theorem removeEntry_setCell_dim {e : Entry} (entry : s.entryOf c = some e) (dim : e.isRetired = false) :
    (removeEntry c (s.setCell c r)).changeCell c (fun r => r.becomes .good) =
      (s.without c).setCell c (r.turned .good) := by
  have commute : (s.setCell c r).without c = (s.without c).setCell c r := rfl
  rw [removeEntry_changeCell_dim (s.setCell c r) c entry dim, cell_setCell_same, commute, setCell_setCell]

end Detected

/-! ## A verdict taken by the condition the cell holds (R46, R47) -/

section Taken

variable {s : State} {v : CellVerdict} {j : Judgement}

/-- The state with a verdict recorded (R43). -/
def State.seen (s : State) (v : CellVerdict) (j : Judgement) : State :=
  s.setCell v.cell ((s.cell v.cell).seen v j.toLast)

variable (taken : v.judgement.compensated s.cfg.gMax = j)
include taken

theorem takeCellVerdict_good (h : (s.cell v.cell).condition = .good) :
    takeCellVerdict v s = judgeGood v j (s.seen v j) := by
  subst taken
  unfold takeCellVerdict
  rw [h]
  rfl

theorem takeCellVerdict_suspect (h : (s.cell v.cell).condition = .suspect) :
    takeCellVerdict v s = judgeSuspect v j (s.seen v j) := by
  subst taken
  unfold takeCellVerdict
  rw [h]
  rfl

theorem takeCellVerdict_dim (h : (s.cell v.cell).condition = .dim) :
    takeCellVerdict v s = judgeDim v j (s.seen v j) := by
  subst taken
  unfold takeCellVerdict
  rw [h]
  rfl

theorem takeCellVerdict_retired (h : (s.cell v.cell).condition = .retired) : takeCellVerdict v s = s.seen v j := by
  subst taken
  unfold takeCellVerdict
  rw [h]
  rfl

end Taken

/-! ## What each judgement makes of a record just written (R48 to R50) -/

section Judged

variable (s : State) (v : CellVerdict) (r : CellRecord)

theorem judgeGood_fault : judgeGood v .fault (s.setCell v.cell r) =
    let t := s.setCell v.cell { r with faultRun := 1, weakRun := 0, condition := .suspect }
    if s.cfg.k = 1 then retireDetected v.cell v.sweep t else t := by
  simp [judgeGood, setCell_setCell]

theorem judgeGood_weak (gains : Rgb Nat) : judgeGood v (.weak gains) (s.setCell v.cell r) =
    let t := s.setCell v.cell { r with weakRun := min s.cfg.kDim (r.weakRun + 1) }
    if s.cfg.kDim ≤ r.weakRun + 1 then dimDetected v.cell gains t else t := by
  simp [judgeGood, setCell_setCell]

theorem judgeGood_weak_below (gains : Rgb Nat) (below : r.weakRun + 1 < s.cfg.kDim) :
    judgeGood v (.weak gains) (s.setCell v.cell r) = s.setCell v.cell { r with weakRun := r.weakRun + 1 } := by
  rw [judgeGood_weak, if_neg (Nat.not_le.mpr below), Nat.min_eq_right (Nat.le_of_lt below)]

theorem judgeGood_healthy : judgeGood v .healthy (s.setCell v.cell r) = s.setCell v.cell (r.withRuns 0 0 0) := by
  simp [judgeGood, setCell_setCell]

theorem judgeSuspect_fault : judgeSuspect v .fault (s.setCell v.cell r) =
    let t := s.setCell v.cell { r with faultRun := min s.cfg.k (r.faultRun + 1) }
    if s.cfg.k ≤ r.faultRun + 1 then retireDetected v.cell v.sweep t else t := by
  simp [judgeSuspect, setCell_setCell]

theorem judgeSuspect_fault_below (below : r.faultRun + 1 < s.cfg.k) :
    judgeSuspect v .fault (s.setCell v.cell r) = s.setCell v.cell { r with faultRun := r.faultRun + 1 } := by
  rw [judgeSuspect_fault, if_neg (Nat.not_le.mpr below), Nat.min_eq_right (Nat.le_of_lt below)]

theorem judgeSuspect_weak (gains : Rgb Nat) : judgeSuspect v (.weak gains) (s.setCell v.cell r) =
    let t := s.setCell v.cell { r with condition := .good, faultRun := 0, weakRun := 1 }
    if s.cfg.kDim = 1 then dimDetected v.cell gains t else t := by
  simp [judgeSuspect, setCell_setCell]

theorem judgeSuspect_healthy :
    judgeSuspect v .healthy (s.setCell v.cell r) = s.setCell v.cell (r.turned .good) := by
  simp only [judgeSuspect, cell_setCell_same, setCell_setCell]
  rfl

theorem judgeDim_fault : judgeDim v .fault (s.setCell v.cell r) =
    if s.cfg.k ≤ r.faultRun + 1 then
      (convertEntry v.cell .detected v.sweep (s.setCell v.cell r)).changeCell v.cell fun r => r.becomes .retired
    else s.setCell v.cell { r with faultRun := r.faultRun + 1, healthyRun := 0 } := by
  simp [judgeDim, setCell_setCell]

theorem judgeDim_weak (gains : Rgb Nat) : judgeDim v (.weak gains) (s.setCell v.cell r) =
    (replaceGains v.cell gains s).setCell v.cell { r with faultRun := 0, healthyRun := 0 } := by
  have replaced : replaceGains v.cell gains (s.setCell v.cell r) = (replaceGains v.cell gains s).setCell v.cell r := rfl
  simp [judgeDim, replaced, State.changeCell, setCell_setCell]

theorem judgeDim_healthy : judgeDim v .healthy (s.setCell v.cell r) =
    if s.cfg.kDim ≤ r.healthyRun + 1 then
      (removeEntry v.cell (s.setCell v.cell r)).changeCell v.cell fun r => r.becomes .good
    else s.setCell v.cell { r with healthyRun := r.healthyRun + 1, faultRun := 0 } := by
  simp [judgeDim, setCell_setCell]

end Judged

/-! ## Verdicts below their depth -/

/-- CELL_VERDICT takes the oldest verdict handed on (R46). -/
theorem exec_cellVerdict {s t : State} {v : CellVerdict} {rest : List CellVerdict}
    (handed : s.handed.cellVerdicts = v :: rest)
    (taken : takeCellVerdict v { s with handed := { s.handed with cellVerdicts := rest } } = t) :
    exec .cellVerdict s = .next t := by
  show execCellVerdict s = .next t
  unfold execCellVerdict
  rw [handed]
  exact congrArg _ taken

/-- With no verdict handed on nothing changes (log entry 8). -/
theorem exec_cellVerdict_none {s : State} (none : s.handed.cellVerdicts = []) : exec .cellVerdict s = .next s := by
  show execCellVerdict s = .next s
  unfold execCellVerdict
  rw [none]

/-- Settles O23: by the condition the cell holds and what the verdict is taken as. -/
theorem verdictBelowDepth : Obligations.VerdictBelowDepth := by
  intro s
  refine ⟨exec_cellVerdict_none, fun v rest handed => ?_⟩
  intro u r answers
  have answered {t : State} (taken : takeCellVerdict v u = t) : answers t := exec_cellVerdict handed taken
  have healthy (h : v.judgement = .healthy) : v.judgement.compensated u.cfg.gMax = .healthy := by rw [h]; rfl
  have none (h : v.judgement = .none) : v.judgement.compensated u.cfg.gMax = .none := by rw [h]; rfl
  have fault (h : v.takenAsFault s.cfg.gMax) : v.judgement.compensated u.cfg.gMax = .fault := compensated_fault h
  have weak {gains : Rgb Nat} (h : v.takenAsWeak s.cfg.gMax gains) :
      v.judgement.compensated u.cfg.gMax = .weak gains := compensated_weak h
  refine ⟨fun hj => answered ?_, fun retired => ⟨fun hj => ?_, fun hj => ?_, fun gains hj => ?_⟩,
    fun good => ⟨fun hj => ?_, fun hj deep => ?_, fun gains hj below => ?_⟩,
    fun suspect => ⟨fun hj => ?_, fun hj below => ?_, fun gains hj deep => ?_⟩,
    fun dim => ⟨fun hj below => ?_, fun hj below => ?_, fun gains hj => ?_⟩⟩
  · cases hc : (u.cell v.cell).condition with
    | good => exact takeCellVerdict_good (none hj) hc
    | suspect => exact takeCellVerdict_suspect (none hj) hc
    | dim => exact takeCellVerdict_dim (none hj) hc
    | retired => exact takeCellVerdict_retired (none hj) hc
  · exact answered (takeCellVerdict_retired (healthy hj) retired)
  · exact answered (takeCellVerdict_retired (fault hj) retired)
  · exact answered (takeCellVerdict_retired (weak hj) retired)
  · refine answered ((takeCellVerdict_good (healthy hj) good).trans ((judgeGood_healthy u v _).trans ?_))
    exact congrArg (u.setCell v.cell) (withRuns_turned good)
  · exact answered ((takeCellVerdict_good (fault hj) good).trans
      ((judgeGood_fault u v _).trans (if_neg deep)))
  · exact answered ((takeCellVerdict_good (weak hj) good).trans (judgeGood_weak_below u v _ gains below))
  · exact answered ((takeCellVerdict_suspect (healthy hj) suspect).trans (judgeSuspect_healthy u v _))
  · exact answered ((takeCellVerdict_suspect (fault hj) suspect).trans (judgeSuspect_fault_below u v _ below))
  · exact answered ((takeCellVerdict_suspect (weak hj) suspect).trans
      ((judgeSuspect_weak u v _ gains).trans (if_neg deep)))
  · exact answered ((takeCellVerdict_dim (healthy hj) dim).trans
      ((judgeDim_healthy u v _).trans (if_neg (Nat.not_le.mpr below))))
  · exact answered ((takeCellVerdict_dim (fault hj) dim).trans
      ((judgeDim_fault u v _).trans (if_neg (Nat.not_le.mpr below))))
  · exact answered ((takeCellVerdict_dim (weak hj) dim).trans (judgeDim_weak u v _ gains))

/-! ## Verdicts at their depth -/

section Depth

variable {s : State} {v : CellVerdict}

/-- A fault run at its depth asks for the cell to be RETIRED, whatever the record holds beside the runs and the condition (R48, R49, R52). -/
theorem takeCellVerdict_faultDepth (fault : v.takenAsFault s.cfg.gMax)
    (deep : (s.cell v.cell).condition = .good ∧ s.cfg.k = 1 ∨
      (s.cell v.cell).condition = .suspect ∧ s.cfg.k ≤ (s.cell v.cell).faultRun + 1) :
    ∃ r : CellRecord, takeCellVerdict v s = retireDetected v.cell v.sweep (s.setCell v.cell r) ∧
      ∀ c, r.turned c = ((s.cell v.cell).seen v .fault).turned c := by
  obtain ⟨good, one⟩ | ⟨suspect, deep⟩ := deep
  · exact ⟨_, (takeCellVerdict_good (compensated_fault fault) good).trans
      ((judgeGood_fault s v _).trans (if_pos one)), fun _ => rfl⟩
  · exact ⟨_, (takeCellVerdict_suspect (compensated_fault fault) suspect).trans
      ((judgeSuspect_fault s v _).trans (if_pos deep)), fun _ => rfl⟩

/-- A weak run at its depth asks for the cell to be DIM (R48, R49, R53). -/
theorem takeCellVerdict_weakDepth {gains : Rgb Nat} (weak : v.takenAsWeak s.cfg.gMax gains)
    (deep : (s.cell v.cell).condition = .good ∧ s.cfg.kDim ≤ (s.cell v.cell).weakRun + 1 ∨
      (s.cell v.cell).condition = .suspect ∧ s.cfg.kDim = 1) :
    ∃ r : CellRecord, takeCellVerdict v s = dimDetected v.cell gains (s.setCell v.cell r) ∧
      ∀ c, r.turned c = ((s.cell v.cell).seen v .weak).turned c := by
  obtain ⟨good, deep⟩ | ⟨suspect, one⟩ := deep
  · exact ⟨_, (takeCellVerdict_good (compensated_weak weak) good).trans
      ((judgeGood_weak s v _ gains).trans (if_pos deep)), fun _ => rfl⟩
  · exact ⟨_, (takeCellVerdict_suspect (compensated_weak weak) suspect).trans
      ((judgeSuspect_weak s v _ gains).trans (if_pos one)), fun _ => rfl⟩

/-- A fault run at its depth converts a DIM cell's entry (R50, R68). -/
theorem takeCellVerdict_dimFaultDepth (fault : v.takenAsFault s.cfg.gMax) (dim : (s.cell v.cell).condition = .dim)
    (deep : s.cfg.k ≤ (s.cell v.cell).faultRun + 1) {e : Entry} (entry : s.entryOf v.cell = some e)
    (isDim : e.isRetired = false) : takeCellVerdict v s =
      (storeAppend v.cell .detected (chooseRemedy true v.cell (s.converted v.cell .detected v.sweep))).setCell v.cell
        (((s.cell v.cell).seen v .fault).turned .retired) := by
  rw [takeCellVerdict_dim (compensated_fault fault) dim]
  unfold State.seen
  rw [judgeDim_fault, ← convertEntry_setCell_dim _ entry isDim]
  exact if_pos deep

/-- A healthy run at its depth removes a DIM cell's entry (R50, R70). -/
theorem takeCellVerdict_dimHealthyDepth (healthy : v.judgement = .healthy) (dim : (s.cell v.cell).condition = .dim)
    (deep : s.cfg.kDim ≤ (s.cell v.cell).healthyRun + 1) {e : Entry} (entry : s.entryOf v.cell = some e)
    (isDim : e.isRetired = false) : takeCellVerdict v s =
      (s.without v.cell).setCell v.cell (((s.cell v.cell).seen v .healthy).turned .good) := by
  rw [takeCellVerdict_dim (j := .healthy) (by rw [healthy]; rfl) dim]
  unfold State.seen
  rw [judgeDim_healthy, ← removeEntry_setCell_dim _ entry isDim]
  exact if_pos deep

end Depth

/-- Settles O24: the admission by the room of the table, and the removal of a DIM entry. -/
theorem dimAdmittedAndRecovered : Obligations.DimAdmittedAndRecovered := by
  intro s v rest handed u r
  refine ⟨fun gains weak deep => ?_, fun hj dim deep e entry isDim => exec_cellVerdict handed ?_⟩
  · obtain ⟨written, taken, turned⟩ := takeCellVerdict_weakDepth (s := u) weak deep
    refine ⟨fun room => exec_cellVerdict handed (taken.trans ?_), fun full => exec_cellVerdict handed (taken.trans ?_)⟩
    · rw [dimDetected_setCell_room (s := u) written gains room, turned]
      rfl
    · rw [dimDetected_setCell_refused (s := u) written gains full, turned]
      rfl
  · exact takeCellVerdict_dimHealthyDepth (s := u) hj dim deep entry isDim

/-- Settles O25: the admission into a free place, and the conversion of the DIM entry. -/
theorem confirmedFaultRetires : Obligations.ConfirmedFaultRetires := by
  intro s v rest handed fault u r
  refine ⟨fun deep room => exec_cellVerdict handed ?_, fun dim deep e entry isDim => exec_cellVerdict handed ?_⟩
  · obtain ⟨written, taken, turned⟩ := takeCellVerdict_faultDepth (s := u) fault deep
    rw [taken, retireDetected_setCell_room (s := u) written room, turned]
    rfl
  · exact takeCellVerdict_dimFaultDepth (s := u) fault dim deep entry isDim

/-- Settles O26: the admission into a full table, by the oldest DIM entry if there is one. -/
theorem fullTable : Obligations.FullTable := by
  intro s v rest handed fault full u r deep
  obtain ⟨written, taken, turned⟩ := takeCellVerdict_faultDepth (s := u) fault deep
  refine ⟨fun retired => exec_cellVerdict handed (taken.trans ?_),
    fun older e newer table retired dim apart => exec_cellVerdict handed (taken.trans ?_)⟩
  · rw [retireDetected_setCell_refused (s := u) written full (oldestDim_none retired), turned]
    rfl
  · have oldest : oldestDim s.entries = some e := table ▸ oldestDim_append retired dim
    rw [retireDetected_setCell_evicts (s := u) written full oldest apart, turned]
    rfl

end Sys2Proof.Machine
end

section
/-! MARK and RESTORE on cells, carried out and answered (R54, R56, R57, R67, R70, R126, R179, R182, R183). -/

namespace Sys2Proof.Machine

/-! ## A request on a cell (R182, R183) -/

section CellRequests

variable {s : State} {rx : Rx} {tag : Byte}

/-- A MARK or RESTORE on a cell leaves the state and the acknowledgement of its effect, when the effect leaves the answers that wait. -/
theorem receiveRequest_onCell (station : FromStation s rx)
    (new : (updatePresence rx.src s).lastTag rx.port ≠ some tag)
    (room : ((updatePresence rx.src s).port rx.port).answers.length ≤ 3) {code x y : Byte}
    {effect : Cell → State → AckCode × State} {command : ServiceCommand}
    (read : readCommand code [x, y] = some command) (one : placesNeeded (some command) = 1)
    (carried : ∀ t, carryOut command t = onCell x y effect t) {t : State} {ack : AckCode}
    (done : onCell x y effect ((updatePresence rx.src s).setLastTag rx.port tag) = (t, [ackReport ack]))
    (kept : (t.port rx.port).answers = ((updatePresence rx.src s).port rx.port).answers) :
    receiveRequest rx tag code [x, y] s = t.replied rx tag [ackReport ack] := by
  refine receiveRequest_answered station (by simp) (by rw [read, one]) ?_ kept room
  rw [handleRequest_new new, read, ← done, ← carried]

theorem onCell_none {x y : Byte} (h : 32 ≤ x.toNat ∨ 32 ≤ y.toNat) (effect : Cell → State → AckCode × State)
    (t : State) : onCell x y effect t = (t, [ackReport .badCell]) := by
  unfold onCell
  rw [ofBytes_no_cell h]

theorem onCell_some {x y : Byte} {c : Cell} (hx : x.toNat = c.x.val) (hy : y.toNat = c.y.val)
    {effect : Cell → State → AckCode × State} {t u : State} {ack : AckCode} (h : effect c t = (ack, u)) :
    onCell x y effect t = (u, [ackReport ack]) := by
  unfold onCell
  rw [ofBytes_cell c hx hy]
  dsimp only
  rw [h]

end CellRequests

/-! ## The answers that wait, through MARK and RESTORE -/

section Answers

variable (p : PortId)

theorem setCell_port (c : Cell) (r : CellRecord) (s : State) : (s.setCell c r).port p = s.port p := rfl

theorem retire_answers (c : Cell) (o : Origin) (s : State) :
    ((storeAppend c o (chooseRemedy true c s)).port p).answers = (s.port p).answers := by
  rw [storeAppend_answers, chooseRemedy_answers]

theorem removeEntry_answers (c : Cell) (s : State) : ((removeEntry c s).port p).answers = (s.port p).answers := by
  have owner (r : Option Remedy) : ((releaseToOwner c r s).port p).answers = (s.port p).answers := by
    unfold releaseToOwner sendRelease
    split
    · exact sendTo_answers p _ rfl s
    · exact sendTo_answers p _ rfl s
    · rfl
  have site (r : Option Remedy) (t : State) : ((releaseToSite c r t).port p).answers = (t.port p).answers := by
    unfold releaseToSite releaseOwnSite
    split
    · split
      · exact freeSite_answers p true _ t
      · rfl
    · rfl
  cases entry : s.entryOf c with
  | none =>
    unfold removeEntry
    rw [entry]
  | some e =>
    cases kind : e.isRetired with
    | false => rw [removeEntry_dim entry kind]; rfl
    | true =>
      rw [removeEntry_retired entry kind, storeRemoval_answers, site, tellFilled_answers, ← owner e.remedy]
      rfl

end Answers

/-! ## What a removal comes to by the kind of the remedy (R70) -/

section Removal

variable {s : State} {c : Cell}

theorem removeEntry_cell (s : State) (c d : Cell) : (removeEntry c s).cell d = s.cell d := by
  obtain ⟨_, cells, _⟩ := removeEntry_listing s c
  unfold State.cell
  rw [cells]

theorem restoreCell_eq {k : Condition} (listed : (s.cell c).condition.shown = some k) :
    restoreCell c s = (.done, (removeEntry c s).setCell c ((s.cell c).turned .good)) := by
  rw [restoreCell_listed listed, ← removeEntry_cell s c c]
  rfl

/-- A cell with a remedy has an entry that is RETIRED, and its remedy says whether the cell is filled. -/
theorem entryOf_of_remedyOf {r : Remedy} (h : s.remedyOf c = some r) :
    ∃ e, s.entryOf c = some e ∧ e.isRetired = true ∧ e.remedy = some r ∧ e.isFilled = r.isFilled := by
  obtain ⟨e, he, hr⟩ := retiredEntry_of_remedyOf h
  obtain ⟨entry, retired⟩ := Option.filter_eq_some_iff.mp he
  exact ⟨e, entry, retired, hr, by rw [Entry.isFilled, hr]; rfl⟩

theorem removeEntry_remedy {r : Remedy} (h : s.remedyOf c = some r) : removeEntry c s =
    storeRemoval c (releaseToSite c (some r)
      (tellFilled true c r.isFilled false ((releaseToOwner c (some r) s).without c))) := by
  obtain ⟨e, entry, retired, remedy, filled⟩ := entryOf_of_remedyOf h
  rw [removeEntry_retired entry retired, remedy, filled]

theorem removeEntry_fill {reason : FillReason} (h : s.remedyOf c = some (.fill reason)) :
    removeEntry c s = storeRemoval c ((s.without c).unfilled c) := removeEntry_remedy h

/-- The RELEASE goes before the removal, and leaves the table (log entry 12). -/
theorem removeEntry_loan {owner : OwnerDir} {site : Site} (h : s.remedyOf c = some (.loan owner site)) :
    removeEntry c s = storeRemoval c
      ((sendTo owner.toDir (.release site c) s).setEntries (removeCell c s.entries)) := by
  rw [removeEntry_remedy h, ← (sendTo_onlySends owner.toDir (.release site c) s).entries]
  rfl

theorem removeEntry_asking {owner : OwnerDir} {site : Site} {n timer : Nat}
    (h : s.remedyOf c = some (.asking owner site n timer)) : removeEntry c s = storeRemoval c
      (((sendTo owner.toDir (.release site c) s).setEntries (removeCell c s.entries)).unfilled c) := by
  rw [removeEntry_remedy h, ← (sendTo_onlySends owner.toDir (.release site c) s).entries]
  rfl

theorem removeEntry_ownSpare {site : Site} (h : s.remedyOf c = some (.ownSpare site))
    (own : (s.site site).state = .own c) : removeEntry c s = storeRemoval c ((s.without c).offered site) := by
  have freed : releaseOwnSite c site (s.without c) = (s.without c).offered site := by
    rw [← freeSite_offered]
    exact if_pos own
  rw [removeEntry_remedy h, ← freed]
  rfl

end Removal

/-! ## What MARK comes to, in the words of the statement (R54, R56, R67, R68) -/

section Marked

variable {s : State} {c : Cell} {e : Entry}

theorem markCellRetired_intoRoom (unlisted : (s.cell c).condition.shown = none) (room : s.entries.length < 128) :
    markCellRetired c s =
      (.done, (appendRetired c .marked s.probe.sweepCount s).setCell c ((s.cell c).turned .retired)) := by
  rw [markCellRetired_room unlisted room, newlyRetired_eq]

theorem markCellRetired_evicting (unlisted : (s.cell c).condition.shown = none) (full : 128 ≤ s.entries.length)
    (oldest : oldestDim s.entries = some e) (apart : e.cell ≠ c) : markCellRetired c s =
      (.done, ((appendRetired c .marked s.probe.sweepCount (s.without e.cell)).setCell c
        ((s.cell c).turned .retired)).setCell e.cell ((s.cell e.cell).turned .good)) := by
  rw [markCellRetired_evicts unlisted (Nat.not_lt.mpr full) oldest, newlyRetired_changeCell _ _ _ _ apart]

theorem markCellRetired_converting (dim : (s.cell c).condition = .dim) (entry : s.entryOf c = some e)
    (isDim : e.isRetired = false) : markCellRetired c s =
      (.done, (storeAppend c .marked (chooseRemedy true c (s.converted c .marked s.probe.sweepCount))).setCell c
        ((s.cell c).turned .retired)) := by
  rw [markCellRetired_dim dim, convertEntry_changeCell _ _ _ _ entry isDim]

end Marked

/-- Settles O48: by the condition of the cell, and for one without an entry by the room of the table. -/
theorem markCarriedOut : Obligations.MarkCarriedOut := by
  intro s rx tag x y station h g new room
  have answered {t : State} {ack : AckCode} (done : onCell x y markCellRetired g = (t, [ackReport ack]))
      (kept : (t.port rx.port).answers = (h.port rx.port).answers) :
      exec (.mark rx tag x y) s = .next (t.replied rx tag [ackReport ack]) :=
    congrArg Host.Outcome.next (receiveRequest_onCell station new room rfl rfl (fun _ => rfl) done kept)
  refine ⟨fun outside => answered (onCell_none outside _ g) rfl, fun c hx hy => ?_⟩
  have marked {t : State} {ack : AckCode} (done : markCellRetired c g = (ack, t)) := answered (onCell_some hx hy done)
  refine ⟨fun retired => marked (markCellRetired_retired retired) rfl, fun unlisted => ?_, fun dim e entry isDim => ?_⟩
  · have shown : (g.cell c).condition.shown = none := (shown_eq_none_iff _).mpr unlisted
    refine ⟨fun free => ?_, fun full retired => ?_, fun full older e newer table retired dim apart => ?_⟩
    · exact marked (markCellRetired_intoRoom shown free) (by
        rw [setCell_port]
        exact retire_answers rx.port c .marked _)
    · exact marked (markCellRetired_refused shown (Nat.not_lt.mpr full) (oldestDim_none retired)) rfl
    · have oldest : oldestDim g.entries = some e := table ▸ oldestDim_append retired dim
      exact marked (markCellRetired_evicting shown full oldest apart) (by
        rw [setCell_port, setCell_port]
        exact retire_answers rx.port c .marked _)
  · exact marked (markCellRetired_converting dim entry isDim) (by
      rw [setCell_port]
      exact retire_answers rx.port c .marked _)

/-- Settles O49: by the condition of the cell, and for a RETIRED one by the kind of its remedy. -/
theorem restoreCarriedOut : Obligations.RestoreCarriedOut := by
  intro s rx tag x y station h g new room
  have answered {t : State} {ack : AckCode} (done : onCell x y restoreCell g = (t, [ackReport ack]))
      (kept : (t.port rx.port).answers = (h.port rx.port).answers) :
      exec (.restore rx tag x y) s = .next (t.replied rx tag [ackReport ack]) :=
    congrArg Host.Outcome.next (receiveRequest_onCell station new room rfl rfl (fun _ => rfl) done kept)
  refine ⟨fun outside => answered (onCell_none outside _ g) rfl, fun c hx hy => ?_⟩
  intro restored without
  have removed {k : Condition} (listed : (g.cell c).condition.shown = some k) {t : State}
      (is : removeEntry c g = t) : restored t := by
    refine answered (onCell_some hx hy ((restoreCell_eq listed).trans (by rw [is]; rfl))) ?_
    rw [← is]
    exact removeEntry_answers rx.port c g
  refine ⟨fun unlisted => ?_, fun dim e entry isDim => ?_, fun retired => ?_⟩
  · exact answered (onCell_some hx hy (restoreCell_unlisted ((shown_eq_none_iff _).mpr unlisted))) rfl
  · exact removed (k := .dim) (by show (h.cell c).condition.shown = _; rw [dim]; rfl) (removeEntry_dim entry isDim)
  · have listed : (g.cell c).condition.shown = some .retired := by
      show (h.cell c).condition.shown = _
      rw [retired]
      rfl
    exact ⟨fun reason fill => removed listed (removeEntry_fill fill),
      fun owner site loan => removed listed (removeEntry_loan loan),
      fun owner site n timer asking => removed listed (removeEntry_asking asking),
      fun site spare own => removed listed (removeEntry_ownSpare spare own)⟩

end Sys2Proof.Machine
end

section
/-! The OWN_SPARE remedies and the OWN sites: their agreement, and the operations on remedies and sites that keep it (R64, R70 to R74, R76, R79, R82, R83, R85 to R94, R117 to R123, R127 to R133). -/

namespace Sys2Proof.Machine

/-! ## What the agreement speaks of -/

/-- Each OWN_SPARE remedy names the site that is OWN for its cell, and each OWN site the cell whose remedy it is (R64). -/
def State.SparesMatch (s : State) : Prop :=
  ∀ c a, s.remedyOf c = some (.ownSpare a) ↔ (s.site a).state = .own c

/-- Each cell of the remap table with its remedy, in ascending position. -/
def State.remedies (s : State) : List (Cell × Option Remedy) := s.entries.map fun e => (e.cell, e.remedy)

/-- The mode, the remedies and the states of the sites. -/
def State.spareView (s : State) : Mode × List (Cell × Option Remedy) × Tbl 256 SiteState :=
  (s.mode, s.remedies, s.sites.map SiteRecord.state)

theorem remedyOf_eq_find (s : State) (c : Cell) :
    s.remedyOf c = (s.remedies.find? fun p => p.1 == c).bind Prod.snd := by
  unfold State.remedyOf State.entryOf State.remedies
  rw [List.find?_map, Option.bind_map]
  rfl

theorem state_eq_get (s : State) (a : Site) : (s.site a).state = (s.sites.map SiteRecord.state).get a.index := by
  rw [Tbl.get_map]
  rfl

theorem bare_iff (s : State) : (∀ e ∈ s.entries, e.remedy = none) ↔ ∀ p ∈ s.remedies, p.2 = none := by
  simp [State.remedies]

section SameView

variable {s t : State} (e : t.spareView = s.spareView)
include e

theorem mode_of_spareView : t.mode = s.mode := (Prod.mk.inj e).1

theorem remedies_of_spareView : t.remedies = s.remedies := (Prod.mk.inj (Prod.mk.inj e).2).1

theorem remedyOf_of_spareView (c : Cell) : t.remedyOf c = s.remedyOf c := by
  rw [remedyOf_eq_find, remedies_of_spareView e, ← remedyOf_eq_find]

theorem state_of_spareView (a : Site) : (t.site a).state = (s.site a).state := by
  rw [state_eq_get, state_eq_get]
  exact congrArg (fun sites => sites.get a.index) (Prod.mk.inj (Prod.mk.inj e).2).2

end SameView

/-- The agreement speaks of nothing else. -/
theorem OwnSparesMatchSites.same {s t : State} (h : OwnSparesMatchSites s) (e : t.spareView = s.spareView) :
    OwnSparesMatchSites t := by
  refine ⟨fun c a => ?_, fun off => ?_⟩
  · rw [remedyOf_of_spareView e, state_of_spareView e]
    exact h.1 c a
  · obtain ⟨absent, bare⟩ := h.2 (mode_of_spareView e ▸ off)
    refine ⟨fun a => (state_of_spareView e a).trans (absent a), (bare_iff t).mpr ?_⟩
    rw [remedies_of_spareView e]
    exact (bare_iff s).mp bare

/-- In RUN the agreement is all that is asked. -/
theorem State.SparesMatch.sound {s : State} (h : s.SparesMatch) (run : s.mode = .run) : OwnSparesMatchSites s :=
  ⟨h, fun off => absurd run off⟩

/-- Without remedies, and with every site ABSENT, the agreement holds in any mode. -/
theorem ownSpares_of_bare {s : State} (absent : ∀ a, (s.site a).state = .absent)
    (bare : ∀ e ∈ s.entries, e.remedy = none) : OwnSparesMatchSites s := by
  refine ⟨fun c a => ?_, fun _ => ⟨absent, bare⟩⟩
  rw [absent]
  refine ⟨fun own => ?_, nofun⟩
  obtain ⟨e, he, hr⟩ := Option.bind_eq_some_iff.mp own
  rw [bare e (entryOf_mem s he)] at hr
  cases hr

section Where

variable {s : State} (h : OwnSparesMatchSites s)
include h

/-- Remedies are of RUN (R78). -/
theorem OwnSparesMatchSites.run_of_remedy {c : Cell} {r : Remedy} (had : s.remedyOf c = some r) : s.mode = .run := by
  by_contra off
  obtain ⟨e, he, hr⟩ := Option.bind_eq_some_iff.mp had
  rw [(h.2 off).2 e (entryOf_mem s he)] at hr
  cases hr

/-- Sites that are not ABSENT are of RUN (R80). -/
theorem OwnSparesMatchSites.run_of_site {a : Site} (given : (s.site a).state ≠ .absent) : s.mode = .run := by
  by_contra off
  exact given ((h.2 off).1 a)

end Where

/-! ## Remedies written, sites given and freed (R64, R71, R85 to R87) -/

section Changes

variable {s : State} {c : Cell} {r : Remedy} {a : Site}

/-- A remedy given to a RETIRED cell makes the agreement whole, when all else agrees and the remedy is OWN_SPARE with the sites that are OWN for the cell. -/
theorem sparesMatch_giveRemedy (retired : (s.retiredEntry c).isSome)
    (others : ∀ d b, d ≠ c → (s.remedyOf d = some (.ownSpare b) ↔ (s.site b).state = .own d))
    (given : ∀ b, r = .ownSpare b ↔ (s.site b).state = .own c) (announce : Bool) :
    (giveRemedy announce c r s).SparesMatch := by
  intro d b
  rw [remedyOf_giveRemedy, site_giveRemedy]
  by_cases same : c = d
  · subst same
    rw [if_pos ⟨rfl, retired⟩, Option.some.injEq]
    exact given b
  · rw [if_neg fun both => same both.1]
    exact others d b (Ne.symm same)

/-- A cell that has no own spare is given a remedy that is none (R64). -/
theorem State.SparesMatch.giveRemedy (h : s.SparesMatch) (other : ∀ b, s.remedyOf c ≠ some (.ownSpare b))
    (new : ∀ b, r ≠ .ownSpare b) (announce : Bool) : (giveRemedy announce c r s).SparesMatch := by
  cases retired : s.retiredEntry c with
  | none =>
    unfold Machine.giveRemedy
    rw [retired]
    exact h
  | some e =>
    refine sparesMatch_giveRemedy (by rw [retired]; rfl) (fun d b _ => h d b) (fun b => ?_) announce
    exact ⟨fun is => absurd is (new b), fun own => absurd ((h c b).mpr own) (other b)⟩

/-- A site freed and offered makes the agreement whole, when all else agrees and the site is no cell's spare. -/
theorem sparesMatch_freeSite (others : ∀ c b, s.remedyOf c = some (.ownSpare b) ↔ b ≠ a ∧ (s.site b).state = .own c)
    (announce : Bool) : (freeSite announce a s).SparesMatch := by
  intro c b
  rw [remedyOf_freeSite, site_freeSite]
  cases waits : s.waiter a with
  | none =>
    rw [if_neg nofun, others]
    by_cases here : a = b
    · subst here
      simp
    · simp [here, Ne.symm here]
  | some d =>
    have busy : s.remedyOf d = some (.fill .quadBusy) := by simpa using List.find?_some waits
    by_cases first : d = c
    · subst first
      rw [if_pos rfl, Option.some.injEq, Remedy.ownSpare.injEq]
      by_cases here : a = b
      · subst here
        simp
      · rw [if_neg here]
        refine ⟨fun is => absurd is here, fun own => ?_⟩
        rw [(others d b).mpr ⟨Ne.symm here, own⟩] at busy
        cases busy
    · rw [if_neg fun is => first (Option.some.inj is), others]
      by_cases here : a = b
      · subst here
        simp [first]
      · simp [here, Ne.symm here]

theorem State.SparesMatch.freeSite (h : s.SparesMatch) (other : ∀ d, (s.site a).state ≠ .own d) (announce : Bool) :
    (freeSite announce a s).SparesMatch := by
  refine sparesMatch_freeSite (fun c b => (h c b).trans ⟨fun own => ⟨?_, own⟩, And.right⟩) announce
  rintro rfl
  exact other c own

theorem claimTests_ne_ownSpare (s : State) (owner : OwnerDir) (site b : Site) :
    claimTests owner site s ≠ .ownSpare b := by
  unfold claimTests
  split
  · nofun
  · split_ifs <;> nofun

/-- The choice of a remedy takes a FREE home site together with the remedy that names it (R73, R85). -/
theorem State.SparesMatch.chooseRemedy (h : s.SparesMatch) (other : ∀ b, s.remedyOf c ≠ some (.ownSpare b))
    (announce : Bool) : (chooseRemedy announce c s).SparesMatch := by
  cases retired : s.retiredEntry c with
  | none =>
    unfold Machine.chooseRemedy
    rw [retired]
    exact h
  | some e =>
    have none (b : Site) : (s.site b).state ≠ .own c := fun own => other b ((h c b).mpr own)
    rw [chooseRemedy_choice retired]
    unfold State.choice State.homeTaken
    cases c.home with
    | own site =>
      by_cases free : (s.site site).state = .free
      · simp only [free, if_true]
        refine sparesMatch_giveRemedy (by exact retired ▸ rfl) (fun d b apart => ?_) (fun b => ?_) announce
        · rw [site_setSiteState]
          by_cases here : site = b
          · subst here
            have := h d site
            rw [free] at this
            rw [if_pos rfl]
            exact this.trans ⟨nofun, fun own => absurd (SiteState.own.inj own).symm apart⟩
          · rw [if_neg here]
            exact h d b
        · rw [site_setSiteState, Remedy.ownSpare.injEq]
          by_cases here : site = b
          · simp [here]
          · simp [here, none b]
      · simp only [free, if_false]
        exact h.giveRemedy other (by nofun) announce
    | foreign owner site => exact h.giveRemedy other (claimTests_ne_ownSpare s owner site) announce

end Changes

/-! ## The operations on remedies -/

section Remedies

variable {s : State} (h : OwnSparesMatchSites s)
include h

theorem OwnSparesMatchSites.sends {t : State} (only : OnlySends s t) : OwnSparesMatchSites t :=
  h.same (by rw [only]; rfl)

theorem OwnSparesMatchSites.enqueue (p : PortId) (n : Notice) : OwnSparesMatchSites (enqueue p n s) :=
  h.sends (enqueue_onlySends p n s)

theorem OwnSparesMatchSites.sendTo (d : Dir) (body : NoticeBody) : OwnSparesMatchSites (sendTo d body s) :=
  h.sends (sendTo_onlySends d body s)

/-- A remedy that is no own spare is replaced by another. -/
theorem OwnSparesMatchSites.giveRemedy {c : Cell} {old new : Remedy} (had : s.remedyOf c = some old)
    (was : ∀ b, old ≠ .ownSpare b) (is : ∀ b, new ≠ .ownSpare b) (announce : Bool) :
    OwnSparesMatchSites (giveRemedy announce c new s) := by
  have only := (onlyRemedies_kept s).giveRemedy announce c new s (.refl s)
  exact (State.SparesMatch.giveRemedy h.1 (by rw [had]; exact fun b e => was b (Option.some.inj e)) is announce).sound
    (only.mode.trans (h.run_of_remedy had))

/-- A site HELD or LENT is freed and offered. -/
theorem OwnSparesMatchSites.freeSite {a : Site} (given : (s.site a).state ≠ .absent)
    (other : ∀ d, (s.site a).state ≠ .own d) (announce : Bool) : OwnSparesMatchSites (freeSite announce a s) := by
  have only := (onlyRemedies_kept s).freeSite announce a s (.refl s)
  exact (State.SparesMatch.freeSite h.1 other announce).sound (only.mode.trans (h.run_of_site given))

theorem OwnSparesMatchSites.chooseRemedy {c : Cell} (run : s.mode = .run)
    (other : ∀ b, s.remedyOf c ≠ some (.ownSpare b)) (announce : Bool) :
    OwnSparesMatchSites (chooseRemedy announce c s) := by
  have only := (onlyRemedies_kept s).chooseRemedy announce c s (.refl s)
  exact (State.SparesMatch.chooseRemedy h.1 other announce).sound (only.mode.trans run)

/-- A site's record is written beside its state. -/
theorem OwnSparesMatchSites.recordSite {a : Site} {x : SiteRecord} (stands : x.state = (s.site a).state) :
    OwnSparesMatchSites (s.setSite a x) := by
  have state (b : Site) : ((s.setSite a x).site b).state = (s.site b).state := by
    rw [site_setSite]
    split
    · rename_i here
      rw [stands, here]
    · rfl
  refine ⟨fun c b => ?_, fun off => ⟨fun b => (state b).trans ((h.2 off).1 b), (h.2 off).2⟩⟩
  rw [state]
  exact h.1 c b

/-- A site that is neither ABSENT nor OWN takes a state that is not OWN. -/
theorem OwnSparesMatchSites.setSite {a : Site} {x : SiteRecord} (given : (s.site a).state ≠ .absent)
    (was : ∀ d, (s.site a).state ≠ .own d) (is : ∀ d, x.state ≠ .own d) : OwnSparesMatchSites (s.setSite a x) := by
  refine State.SparesMatch.sound (fun c b => (h.1 c b).trans ?_) (h.run_of_site given)
  rw [site_setSite]
  by_cases here : a = b
  · subst here
    simp [was, is]
  · rw [if_neg here]

end Remedies

/-- A site that depends on one of the lost neighbours depends on a neighbour (R94). -/
theorem dependsOn_anyone {lost : BorrowerDir → Bool} {st : SiteState} (h : st.dependsOn lost = true) :
    st.dependsOn (fun _ => true) = true := by
  cases st with
  | lent | held => rfl
  | absent | free | own | faulty => cases h

/-! ## The Spare Allocator (R82, R83, R88 to R94) -/

section Allocator

variable {s : State} (h : OwnSparesMatchSites s)
include h

/-- A site that becomes FAULTY is taken from the cell it was OWN for, whose remedy becomes FILL(SITE_FAULTY) (R83). -/
theorem OwnSparesMatchSites.siteFails {a : Site} {x : SiteRecord} (given : (s.site a).state ≠ .absent)
    (faulty : x.state = .faulty) :
    OwnSparesMatchSites (faultConsequence a (s.site a).state (s.setSite a x)) := by
  have failed (other : ∀ d, (s.site a).state ≠ .own d) : OwnSparesMatchSites (s.setSite a x) :=
    h.setSite given other (by rw [faulty]; nofun)
  unfold faultConsequence
  cases state : (s.site a).state with
  | own c =>
    have spare : s.remedyOf c = some (.ownSpare a) := (h.1 c a).mpr state
    obtain ⟨e, retired, _⟩ := retiredEntry_of_remedyOf spare
    have only := (onlyRemedies_kept (s.setSite a x)).giveRemedy true c (.fill .siteFaulty) _ (.refl _)
    refine (sparesMatch_giveRemedy (s := s.setSite a x) (Option.isSome_of_eq_some retired) (fun d b apart => ?_) (fun b => ?_) true).sound
      (only.mode.trans (h.run_of_site given))
    · refine (h.1 d b).trans ?_
      rw [site_setSite]
      by_cases here : a = b
      · subst here
        rw [if_pos rfl, faulty, state]
        exact ⟨fun own => absurd (SiteState.own.inj own).symm apart, nofun⟩
      · rw [if_neg here]
    · refine ⟨nofun, fun own => ?_⟩
      rw [site_setSite] at own
      split at own
      · rw [faulty] at own
        cases own
      · rename_i apart
        have := (h.1 c b).mpr own
        rw [spare, Option.some.injEq, Remedy.ownSpare.injEq] at this
        exact absurd this apart
  | lent d c => exact (failed (by rw [state]; nofun)).sendTo _ _
  | absent | free | held | faulty => exact failed (by rw [state]; nofun)

theorem OwnSparesMatchSites.takeSiteVerdict (v : SiteVerdict) : OwnSparesMatchSites (takeSiteVerdict v s) := by
  unfold Machine.takeSiteVerdict
  dsimp only
  split
  · exact h.recordSite rfl
  · rename_i usable
    have given : (s.site v.site).state ≠ .absent := fun absent => usable (by rw [absent]; rfl)
    split
    · exact h.recordSite rfl
    · exact h.recordSite rfl
    · exact h.recordSite rfl
    · split
      · exact h.siteFails given rfl
      · exact h.recordSite rfl

theorem OwnSparesMatchSites.takeClaim (d : Dir) (c : Cell) (site : Site) :
    OwnSparesMatchSites (takeClaim d c site s) := by
  have refused {d : Dir} {why : RefuseReason} : OwnSparesMatchSites (refuseClaim d site c why s) := h.sendTo _ _
  have given {st st' : SiteState} (state : (s.site site).state = st) (present : st ≠ .absent)
      (other : ∀ d, st ≠ .own d) (new : ∀ d, st' ≠ .own d) : OwnSparesMatchSites (s.setSiteState site st') :=
    h.setSite (by rw [state]; exact present) (by rw [state]; exact other) new
  unfold Machine.takeClaim
  split
  · exact refused
  · split
    · exact refused
    · split
      · exact refused
      · rename_i b _
        unfold answerFromSite
        dsimp only
        cases state : (s.site site).state with
        | absent | faulty | own => exact refused
        | free =>
          dsimp only
          split
          · exact (given (st' := .lent b c) state nofun nofun nofun).sendTo _ _
          · exact OwnSparesMatchSites.sendTo (s := requestAppend site (s.setSiteState site (.held b c 0)))
              ((given state nofun nofun (by nofun)).same rfl) _ _
        | held d' c' n =>
          dsimp only
          split
          · split
            · exact (given (st' := .lent b c) state nofun nofun nofun).sendTo _ _
            · exact h.sendTo _ _
          · exact refused
        | lent d' c' =>
          dsimp only
          split
          · exact h.sendTo _ _
          · exact refused

/-- A site LENT or HELD is freed and offered. -/
theorem OwnSparesMatchSites.freeDependent {a : Site} (dependent : (s.site a).state.dependsOn (fun _ => true) = true)
    (announce : Bool) : OwnSparesMatchSites (Machine.freeSite announce a s) := by
  refine h.freeSite ?_ (fun d => ?_) announce <;>
    · intro is
      rw [is] at dependent
      cases dependent

theorem OwnSparesMatchSites.takeRelease (d : Dir) (site : Site) (c : Cell) :
    OwnSparesMatchSites (takeRelease d site c s) := by
  unfold Machine.takeRelease
  split
  · exact h
  · split
    · rename_i lent
      exact h.freeDependent (by rw [lent]; rfl) true
    · exact h

theorem OwnSparesMatchSites.takeHoldList (d : Dir) (pairs : List LoanPair) :
    OwnSparesMatchSites (takeHoldList d pairs s) := by
  unfold Machine.takeHoldList
  split
  · exact h
  · refine foldl_keeps (fun t a ht => ?_) _ _ h
    unfold checkHold
    split
    · rename_i lent
      split
      · exact ht.freeDependent (by rw [lent]; rfl) true
      · exact ht
    · exact ht

theorem OwnSparesMatchSites.freeLost (announce : Bool) (lost : BorrowerDir → Bool) :
    OwnSparesMatchSites (freeLost announce lost s) := by
  refine foldl_keeps (fun t a ht => ?_) _ _ h
  unfold freeIfLost
  split
  · rename_i gone
    exact ht.freeDependent (dependsOn_anyone gone) announce
  · exact ht

theorem OwnSparesMatchSites.endHold (a : Site) : OwnSparesMatchSites (endHold a s) := by
  unfold Machine.endHold
  split
  · rename_i held
    exact h.freeDependent (by rw [held]; rfl) true
  · exact h

end Allocator

/-! ## The claimant side (R117 to R123, R127 to R133) -/

section Claimant

variable {s : State}

/-- The remedy that an answer from an owner matches is the cell's, and no own spare (R118). -/
theorem remedyOf_of_matchedRemedy {d : Dir} {site : Site} {c : Cell} {r : Remedy}
    (found : s.matchedRemedy d site c = some r) : s.remedyOf c = some r ∧ ∀ b, r ≠ .ownSpare b := by
  unfold State.matchedRemedy at found
  split at found
  · split at found
    · rename_i has _
      exact ⟨has.trans found, by rintro b rfl; cases found⟩
    · cases found
  · split at found
    · rename_i has _
      exact ⟨has.trans found, by rintro b rfl; cases found⟩
    · cases found
  · cases found

variable (h : OwnSparesMatchSites s)
include h

/-- Choices made again keep the agreement when they are for cells without an own spare. -/
theorem OwnSparesMatchSites.rechooseAll {calls : Cell → Remedy → Bool}
    (filled : ∀ c b, calls c (.ownSpare b) = false) (announce : Bool) :
    OwnSparesMatchSites (rechooseAll announce calls s) := by
  refine foldl_keeps (f := rechoose announce calls) (fun t c ht => ?_) _ s h
  unfold rechoose
  split
  · rename_i called
    obtain ⟨r, had, call⟩ := (Option.any_eq_true _ _).mp called
    refine ht.chooseRemedy (ht.run_of_remedy had) (fun b own => ?_) announce
    rw [had, Option.some.injEq] at own
    rw [own, filled] at call
    cases call
  · exact ht

/-- An ASKING remedy's attempt and timer written (R115). -/
theorem OwnSparesMatchSites.setClaim {c : Cell} {old : Remedy} (had : s.remedyOf c = some old)
    (was : ∀ b, old ≠ .ownSpare b) (owner : OwnerDir) (site : Site) (n timer : Nat) :
    OwnSparesMatchSites (setClaim c owner site n timer s) := by
  obtain ⟨e, retired, _⟩ := retiredEntry_of_remedyOf had
  refine State.SparesMatch.sound (fun d b => ?_) (h.run_of_remedy had)
  unfold Machine.setClaim
  rw [remedyOf_change, retired]
  by_cases same : c = d
  · subst same
    rw [if_pos ⟨rfl, rfl⟩]
    refine ⟨nofun, fun own => ?_⟩
    rw [(h.1 c b).mpr own, Option.some.injEq] at had
    exact absurd had.symm (was b)
  · rw [if_neg fun both => same both.1]
    exact h.1 d b

theorem OwnSparesMatchSites.takeWait (d : Dir) (site : Site) (c : Cell) :
    OwnSparesMatchSites (takeWait d site c s) := by
  unfold Machine.takeWait
  split
  · rename_i found
    obtain ⟨had, other⟩ := remedyOf_of_matchedRemedy found
    exact h.setClaim had other _ _ _ _
  · exact h

theorem OwnSparesMatchSites.takeGrant (d : Dir) (site : Site) (c : Cell) :
    OwnSparesMatchSites (takeGrant d site c s) := by
  unfold Machine.takeGrant
  split
  · rename_i found
    obtain ⟨had, other⟩ := remedyOf_of_matchedRemedy found
    exact h.giveRemedy had other (by nofun) true
  · exact h
  · exact h.sendTo _ _

theorem OwnSparesMatchSites.takeRefuse (d : Dir) (site : Site) (c : Cell) (code : Fin 16) :
    OwnSparesMatchSites (takeRefuse d site c code s) := by
  unfold Machine.takeRefuse
  split
  · rename_i found _
    obtain ⟨had, other⟩ := remedyOf_of_matchedRemedy found
    exact h.giveRemedy had other (by nofun) true
  · exact h

theorem OwnSparesMatchSites.takeRevoke (d : Dir) (site : Site) (c : Cell) :
    OwnSparesMatchSites (takeRevoke d site c s) := by
  unfold Machine.takeRevoke
  split
  · rename_i found
    obtain ⟨had, other⟩ := remedyOf_of_matchedRemedy found
    exact h.giveRemedy had other (by nofun) true
  · exact h

theorem OwnSparesMatchSites.retryClaim (c : Cell) : OwnSparesMatchSites (retryClaim c s) := by
  unfold Machine.retryClaim
  split
  · rename_i asking
    split
    · exact (h.setClaim asking nofun _ _ _ _).sendTo _ _
    · exact h.giveRemedy asking nofun (by nofun) true
  · exact h

theorem OwnSparesMatchSites.takeSweepEnd : OwnSparesMatchSites (takeSweepEnd s) :=
  h.rechooseAll (fun _ _ => by rfl) true

theorem OwnSparesMatchSites.takeLoanList (d : Dir) (pairs : List LoanPair) :
    OwnSparesMatchSites (takeLoanList d pairs s) := by
  unfold Machine.takeLoanList
  split
  · exact h
  · refine foldl_keeps (fun t pair ht => ?_) _ _ (foldl_keeps (fun t c ht => ?_) _ _ h)
    · unfold answerPair
      split
      · exact ht
      · exact ht.sendTo _ _
    · unfold checkLoan
      split
      · rename_i loan
        split
        · obtain ⟨e, retired, _⟩ := retiredEntry_of_remedyOf loan
          have revoked := ht.giveRemedy loan nofun (new := .fill .revoked) nofun true
          have filled : (Machine.giveRemedy true c (.fill .revoked) t).remedyOf c = some (.fill .revoked) := by
            rw [remedyOf_giveRemedy, if_pos ⟨rfl, Option.isSome_of_eq_some retired⟩]
          exact revoked.chooseRemedy (revoked.run_of_remedy filled) (by rw [filled]; nofun) true
        · exact ht
      · exact ht

theorem OwnSparesMatchSites.dropLost (announce : Bool) (lost : OwnerDir → Bool) :
    OwnSparesMatchSites (dropLost announce lost s) := by
  refine foldl_keeps (fun t c ht => ?_) _ _ h
  unfold dropIfLost
  split
  · rename_i gone
    obtain ⟨r, had, depends⟩ := (Option.any_eq_true _ _).mp gone
    exact ht.giveRemedy had (by rintro b rfl; cases depends) (by nofun) announce
  · exact ht

end Claimant

/-! ## The neighbours, the notices and the refresh (R139 to R143, R148, R163, R164) -/

section Neighbours

variable {s : State} (h : OwnSparesMatchSites s)
include h

theorem OwnSparesMatchSites.sendLists (d : Dir) : OwnSparesMatchSites (sendLists d s) := by
  cases d
  case nw | se => exact h.sendTo _ _
  all_goals exact (h.sendTo _ _).sendTo _ _

theorem OwnSparesMatchSites.updatePresence (src : Pos) : OwnSparesMatchSites (updatePresence src s) := by
  unfold Machine.updatePresence hearNeighbour neighbourReturned
  split
  · exact h
  · split
    · exact h
    · dsimp only
      split
      · exact h.same rfl
      · refine OwnSparesMatchSites.rechooseAll (OwnSparesMatchSites.sendLists ?_ _) (fun _ _ => rfl) true
        exact h.same rfl

theorem OwnSparesMatchSites.receive (rx : Rx) {act : State → State}
    (ha : ∀ t, OwnSparesMatchSites t → OwnSparesMatchSites (act t)) : OwnSparesMatchSites (receive rx act s) := by
  unfold Machine.receive
  dsimp only
  split
  · exact h
  · split
    · exact h.same rfl
    · split
      · exact ha _ (h.updatePresence _)
      · exact h.updatePresence _

theorem OwnSparesMatchSites.receiveFromNeighbour (rx : Rx) {act : Dir → State → State}
    (ha : ∀ d t, OwnSparesMatchSites t → OwnSparesMatchSites (act d t)) :
    OwnSparesMatchSites (receiveFromNeighbour rx act s) := by
  refine h.receive rx fun t ht => ?_
  split
  · exact ht
  · exact ha _ t ht

theorem OwnSparesMatchSites.takeFillList (d : Dir) (edge : Edge) (positions : List (Fin 32)) :
    OwnSparesMatchSites (takeFillList d edge positions s) := by
  unfold Machine.takeFillList replaceFills
  dsimp only
  split
  · exact h
  · split
    · split <;> exact h.same rfl
    · exact h

theorem OwnSparesMatchSites.silenceNeighbour (d : Dir) : OwnSparesMatchSites (silenceNeighbour d s) := by
  unfold Machine.silenceNeighbour withdrawFrom
  split
  · exact h
  · split
    · have silent (nb : Neighbour) : OwnSparesMatchSites (dropFills d (s.setNeighbour d (some nb))) := h.same rfl
      exact ((silent _).freeLost _ _).dropLost _ _
    · exact h

theorem OwnSparesMatchSites.refresh : OwnSparesMatchSites (refresh s) := by
  have lists : OwnSparesMatchSites (Dir.all.foldl (fun t d => Machine.sendLists d t) s) :=
    foldl_keeps (P := OwnSparesMatchSites) (fun _ d ht => OwnSparesMatchSites.sendLists ht d) _ s h
  exact lists.same rfl

end Neighbours

end Sys2Proof.Machine
end

section
/-! Every command and every step keeps the OWN_SPARE remedies and the OWN sites in agreement while the remap table is sound: the admissions, conversions and removals, the verdicts, the requests and notices, the load and entry to RUN, and the count of the timers (R64, R66 to R70, R78, R80, R85 to R87, R97, R115, R174, R175). -/

namespace Sys2Proof.Machine

/-! ## Entries entered, taken out and changed (R66 to R70) -/

section Entries

variable {s : State} {c : Cell}

/-- A new entry without a remedy leaves every remedy. -/
theorem remedyOf_append {e : Entry} (bare : e.remedy = none) (d : Cell) :
    (s.setEntries (s.entries ++ [e])).remedyOf d = s.remedyOf d := by
  simp only [State.remedyOf, State.entryOf, setEntries_entries, List.find?_append, List.find?_singleton]
  cases s.entries.find? fun x => x.cell == d with
  | some x => rfl
  | none => split <;> simp [bare]

/-- The remedies after an entry is taken out. -/
theorem remedyOf_without (d : Cell) : (s.without c).remedyOf d = if d = c then none else s.remedyOf d := by
  simp only [State.remedyOf, State.entryOf, State.without, setEntries_entries, removeCell, List.find?_filter]
  by_cases same : d = c
  · subst same
    rw [List.find?_eq_none.mpr (by simp), if_pos rfl]
    rfl
  · rw [if_neg same]
    congr 2
    funext e
    by_cases here : e.cell = d <;> simp [here, same]

/-- Entries changed in their places, each keeping its cell and its remedy. -/
theorem remedies_map {f : Entry → Entry} (cell : ∀ e, (f e).cell = e.cell) (remedy : ∀ e, (f e).remedy = e.remedy) :
    (s.setEntries (s.entries.map f)).remedies = s.remedies := by
  simp only [State.remedies, setEntries_entries, List.map_map, Function.comp_def, cell, remedy]

theorem converted_remedy (e : Entry) (o : Origin) (n : Nat) : (e.converted o n).remedy = e.remedy := by
  obtain ⟨d, origin, body⟩ := e
  cases body <;> rfl

theorem withGains_remedy (e : Entry) (gains : Rgb Nat) : (e.withGains gains).remedy = e.remedy := by
  obtain ⟨d, origin, body⟩ := e
  cases body <;> rfl

variable (h : OwnSparesMatchSites s)
include h

theorem OwnSparesMatchSites.append {e : Entry} (bare : e.remedy = none) :
    OwnSparesMatchSites (s.setEntries (s.entries ++ [e])) := by
  refine ⟨fun d b => ?_, fun off => ⟨(h.2 off).1, fun x mem => ?_⟩⟩
  · rw [remedyOf_append bare]
    exact h.1 d b
  · obtain old | new := List.mem_append.mp mem
    · exact (h.2 off).2 x old
    · rw [List.mem_singleton.mp new]
      exact bare

/-- An entry without an own spare is taken out. -/
theorem OwnSparesMatchSites.without (other : ∀ b, s.remedyOf c ≠ some (.ownSpare b)) :
    OwnSparesMatchSites (s.without c) := by
  refine ⟨fun d b => ?_, fun off => ⟨(h.2 off).1, fun e mem => (h.2 off).2 e (List.mem_filter.mp mem).1⟩⟩
  rw [remedyOf_without]
  by_cases same : d = c
  · subst same
    rw [if_pos rfl]
    exact ⟨nofun, fun own => absurd ((h.1 d b).mpr own) (other b)⟩
  · rw [if_neg same]
    exact h.1 d b

theorem OwnSparesMatchSites.mapEntries {f : Entry → Entry} (cell : ∀ e, (f e).cell = e.cell)
    (remedy : ∀ e, (f e).remedy = e.remedy) : OwnSparesMatchSites (s.setEntries (s.entries.map f)) := by
  refine h.same ?_
  unfold State.spareView
  rw [remedies_map cell remedy]
  rfl

theorem OwnSparesMatchSites.changeEntry (c : Cell) {f : Entry → Entry} (cell : ∀ e, (f e).cell = e.cell)
    (remedy : ∀ e, (f e).remedy = e.remedy) : OwnSparesMatchSites (s.setEntries (changeEntry c f s.entries)) :=
  h.mapEntries (fun e => by split <;> simp [cell]) fun e => by split <;> simp [remedy]

theorem OwnSparesMatchSites.queueWrite (op : PendingWrite) : OwnSparesMatchSites (queueWrite op s) := by
  unfold Machine.queueWrite
  split <;> exact h.same rfl

theorem OwnSparesMatchSites.storeAppend (c : Cell) (o : Origin) : OwnSparesMatchSites (storeAppend c o s) := by
  unfold Machine.storeAppend
  split
  · exact h
  · exact h.queueWrite _

theorem OwnSparesMatchSites.storeRemoval (c : Cell) : OwnSparesMatchSites (storeRemoval c s) := by
  unfold Machine.storeRemoval
  split
  · exact h
  · split
    · exact h.same rfl
    · split
      · exact h.queueWrite _
      · exact h

/-- A cell without a remedy is RETIRED with a new entry (R52, R67). -/
theorem OwnSparesMatchSites.newlyRetired (run : s.mode = .run) (none : s.remedyOf c = none) (o : Origin) (n : Nat) :
    OwnSparesMatchSites (s.newlyRetired c o n) := by
  have entered : OwnSparesMatchSites (s.setEntries (s.entries ++ [⟨c, o, .retired .none n false⟩])) := h.append rfl
  have chosen := entered.chooseRemedy run (by rw [remedyOf_append rfl, none]; nofun) true (c := c)
  exact (chosen.storeAppend c o).same rfl

/-- A DIM entry is converted where it stands (R68). -/
theorem OwnSparesMatchSites.convertEntry (run : s.mode = .run) (none : s.remedyOf c = none) (o : Origin) (n : Nat) :
    OwnSparesMatchSites (convertEntry c o n s) := by
  unfold Machine.convertEntry
  split
  · split
    · exact h
    · have converted := h.changeEntry c (fun e => converted_cell e o n) fun e => converted_remedy e o n
      refine OwnSparesMatchSites.storeAppend (converted.chooseRemedy run ?_ true) c o
      have remedies : (s.setEntries (Machine.changeEntry c (fun e => e.converted o n) s.entries)).remedies = s.remedies :=
        remedies_map (fun e => by split <;> simp [converted_cell]) fun e => by split <;> simp [converted_remedy]
      rw [remedyOf_eq_find, remedies, ← remedyOf_eq_find, none]
      nofun
  · exact h

end Entries

/-! ## Removals (R70) -/

section Removal

variable {s : State} {c : Cell}

/-- Telling a change of the filled cells leaves the remedies and the sites (R76). -/
theorem tellFilled_spareView (announce : Bool) (c : Cell) (before after : Bool) (s : State) :
    (tellFilled announce c before after s).spareView = s.spareView := by
  have mark : (s.markCell c after).spareView = s.spareView :=
    foldl_keeps (P := fun t => t.spareView = s.spareView)
      (f := fun t edge => t.markEdge edge (c.edgePosition edge) after) (fun _ _ ht => ht) _ s rfl
  have send (t : State) : (sendFillLists c t).spareView = t.spareView :=
    foldl_keeps (P := fun u => u.spareView = t.spareView)
      (fun u edge hu => by rw [← hu]; unfold sendFillList; rw [sendTo_onlySends]; rfl) _ t rfl
  unfold tellFilled
  split
  · rfl
  · split
    · rw [send, mark]
    · exact mark

variable (h : OwnSparesMatchSites s)
include h

/-- The site of an own spare whose entry is taken out is freed and offered (R70, R86). -/
theorem OwnSparesMatchSites.releaseSpare {a : Site} (spare : s.remedyOf c = some (.ownSpare a)) {t : State}
    (taken : t.spareView = (s.without c).spareView) : OwnSparesMatchSites (releaseToSite c (some (.ownSpare a)) t) := by
  have own : (s.site a).state = .own c := (h.1 c a).mp spare
  have state (b : Site) : (t.site b).state = (s.site b).state := state_of_spareView taken b
  have only := (onlyRemedies_kept t).freeSite true a t (.refl t)
  have run : t.mode = .run := (mode_of_spareView taken).trans (h.run_of_remedy spare)
  unfold releaseToSite releaseOwnSite
  dsimp only
  rw [if_pos ((state a).trans own)]
  refine (sparesMatch_freeSite (fun d b => ?_) true).sound (only.mode.trans run)
  rw [remedyOf_of_spareView taken, remedyOf_without, state]
  by_cases same : d = c
  · subst same
    rw [if_pos rfl]
    refine ⟨nofun, fun ⟨apart, named⟩ => ?_⟩
    rw [(h.1 d b).mpr named, Option.some.injEq, Remedy.ownSpare.injEq] at spare
    exact absurd spare apart
  · rw [if_neg same]
    refine (h.1 d b).trans ⟨fun named => ⟨?_, named⟩, And.right⟩
    rintro rfl
    rw [own, SiteState.own.injEq] at named
    exact same named.symm

theorem OwnSparesMatchSites.removeEntry (c : Cell) : OwnSparesMatchSites (removeEntry c s) := by
  cases entry : s.entryOf c with
  | none =>
    unfold Machine.removeEntry
    rw [entry]
    exact h
  | some e =>
    have remedy : s.remedyOf c = e.remedy := by rw [State.remedyOf, entry]; rfl
    cases retired : e.isRetired with
    | false =>
      rw [removeEntry_dim entry retired]
      refine h.without fun b own => ?_
      obtain ⟨x, hx, _⟩ := retiredEntry_of_remedyOf own
      obtain ⟨is, shows⟩ := Option.filter_eq_some_iff.mp hx
      rw [entry, Option.some.injEq] at is
      rw [← is, retired] at shows
      cases shows
    | true =>
      rw [removeEntry_retired entry retired]
      refine OwnSparesMatchSites.storeRemoval ?_ c
      have told (t : State) := tellFilled_spareView true c e.isFilled false t
      cases had : e.remedy with
      | none =>
        exact (h.without (by rw [remedy, had]; nofun)).same (told _)
      | some r =>
        cases r with
        | ownSpare a => exact h.releaseSpare (remedy.trans had) (told _)
        | loan owner site | asking owner site n timer =>
          have released := h.sendTo owner.toDir (.release site c)
          refine (released.without fun b own => ?_).same (told _)
          rw [(sendTo_onlySends _ _ _).remedyOf, remedy, had] at own
          cases own
        | fill reason => exact (h.without (by rw [remedy, had]; nofun)).same (told _)

end Removal

/-! ## Verdicts, MARK and RESTORE (R48 to R57) -/

section Verdicts

variable {s : State} {c : Cell}

/-- Only RETIRED cells have a remedy (R45, R63). -/
theorem TableInRun.remedyOf_none (table : TableInRun s) (other : s.shown c ≠ some .retired) : s.remedyOf c = none := by
  cases had : s.remedyOf c with
  | none => rfl
  | some r =>
    obtain ⟨e, he, _⟩ := retiredEntry_of_remedyOf had
    obtain ⟨entry, retired⟩ := Option.filter_eq_some_iff.mp he
    have shown := (entriesMatchConditions_iff s).mp table.sound.2.2.2 c
    rw [entry, Option.map_some, Entry.condition, if_pos retired] at shown
    exact absurd shown.symm other

variable (h : OwnSparesMatchSites s) (table : TableInRun s)
include h table

/-- A cell without an entry is RETIRED in the place of the oldest DIM entry (R54, R67). -/
theorem OwnSparesMatchSites.evicted (new : s.shown c = none) {e : Entry} (oldest : oldestDim s.entries = some e)
    (o : Origin) (n : Nat) :
    OwnSparesMatchSites (((s.without e.cell).newlyRetired c o n).changeCell e.cell fun r => r.becomes .good) := by
  obtain ⟨mem, dim⟩ := oldestDim_mem oldest
  have listed : (e.cell, e.condition) ∈ s.listing := List.mem_map_of_mem mem
  have bare : s.remedyOf e.cell = none := by
    refine table.remedyOf_none fun retired => ?_
    rw [(table.listed.agrees _ _).mp listed, Entry.condition, dim] at retired
    cases retired
  have kept := h.without (c := e.cell) (by rw [bare]; nofun)
  refine (kept.newlyRetired table.run ?_ o n).same rfl
  rw [remedyOf_without, table.remedyOf_none (by rw [new]; nofun), ite_self]

theorem OwnSparesMatchSites.retireDetected (new : s.shown c = none) (n : Nat) :
    OwnSparesMatchSites (retireDetected c n s) := by
  by_cases room : s.entries.length < 128
  · rw [retireDetected_room room]
    exact h.newlyRetired table.run (table.remedyOf_none (by rw [new]; nofun)) _ n
  · cases oldest : oldestDim s.entries with
    | some e =>
      rw [retireDetected_evicts room oldest]
      exact h.evicted table new oldest _ n
    | none =>
      rw [retireDetected_refused room oldest]
      exact h.same rfl

omit table in
theorem OwnSparesMatchSites.dimDetected (gains : Rgb Nat) : OwnSparesMatchSites (dimDetected c gains s) := by
  by_cases room : s.entries.length < 128
  · rw [dimDetected_room room]
    exact (h.append (e := ⟨c, .detected, .dim gains⟩) rfl).same rfl
  · rw [dimDetected_refused room]
    exact h.same rfl

theorem OwnSparesMatchSites.markCellRetired (c : Cell) : OwnSparesMatchSites (markCellRetired c s).2 := by
  have unlisted (new : s.shown c = none) : OwnSparesMatchSites (Machine.markCellRetired c s).2 := by
    by_cases room : s.entries.length < 128
    · rw [markCellRetired_room new room]
      exact h.newlyRetired table.run (table.remedyOf_none (by rw [new]; nofun)) _ _
    · cases oldest : oldestDim s.entries with
      | some e =>
        rw [markCellRetired_evicts new room oldest]
        exact h.evicted table new oldest _ _
      | none =>
        rw [markCellRetired_refused new room oldest]
        exact h
  cases hc : (s.cell c).condition with
  | good => exact unlisted (shown_of_condition hc)
  | suspect => exact unlisted (shown_of_condition hc)
  | dim =>
    rw [markCellRetired_dim hc]
    have none := table.remedyOf_none (c := c) (by rw [shown_of_condition hc]; nofun)
    exact (h.convertEntry table.run none _ _).same rfl
  | retired =>
    rw [markCellRetired_retired hc]
    exact h

omit table in
theorem OwnSparesMatchSites.restoreCell (c : Cell) : OwnSparesMatchSites (restoreCell c s).2 := by
  cases shown : s.shown c with
  | none =>
    rw [restoreCell_unlisted shown]
    exact h
  | some k =>
    rw [restoreCell_listed shown]
    exact (h.removeEntry c).same rfl

/-- A fault written into a record that calls for no entry, and what follows when it is confirmed (R48, R49, R52). -/
theorem OwnSparesMatchSites.recordFault (new : s.shown c = none) {r : CellRecord} (calls : r.condition.shown = none)
    (confirmed : Prop) [Decidable confirmed] (n : Nat) : OwnSparesMatchSites
      (if confirmed then Machine.retireDetected c n (s.setCell c r) else s.setCell c r) := by
  obtain ⟨kept, unlisted⟩ := table.unlisted new calls
  have written : OwnSparesMatchSites (s.setCell c r) := h.same rfl
  split
  · exact written.retireDetected kept unlisted n
  · exact written

omit table in
/-- A weakness written into a record, and what follows at the depth of its run (R48, R49, R53). -/
theorem OwnSparesMatchSites.recordWeak (r : CellRecord) (deep : Prop) [Decidable deep] (gains : Rgb Nat) :
    OwnSparesMatchSites (if deep then Machine.dimDetected c gains (s.setCell c r) else s.setCell c r) := by
  have written : OwnSparesMatchSites (s.setCell c r) := h.same rfl
  split
  · exact written.dimDetected gains
  · exact written

variable {v : CellVerdict}

theorem OwnSparesMatchSites.judgeGood (good : (s.cell v.cell).condition = .good) (j : Judgement) :
    OwnSparesMatchSites (judgeGood v j s) := by
  cases j with
  | fault => exact h.recordFault table (shown_of_condition good) rfl (s.cfg.k = 1) v.sweep
  | weak gains => exact h.recordWeak _ (s.cfg.kDim ≤ (s.cell v.cell).weakRun + 1) gains
  | healthy => exact h.same rfl
  | none => exact h

theorem OwnSparesMatchSites.judgeSuspect (suspect : (s.cell v.cell).condition = .suspect) (j : Judgement) :
    OwnSparesMatchSites (judgeSuspect v j s) := by
  have new : s.shown v.cell = none := shown_of_condition suspect
  cases j with
  | fault =>
    exact h.recordFault (r := { s.cell v.cell with faultRun := min s.cfg.k ((s.cell v.cell).faultRun + 1) }) table new
      new (s.cfg.k ≤ (s.cell v.cell).faultRun + 1) v.sweep
  | weak gains => exact h.recordWeak _ (s.cfg.kDim = 1) gains
  | healthy => exact h.same rfl
  | none => exact h

theorem OwnSparesMatchSites.judgeDim (dim : (s.cell v.cell).condition = .dim) (j : Judgement) :
    OwnSparesMatchSites (judgeDim v j s) := by
  unfold Machine.judgeDim
  cases j with
  | fault =>
    dsimp only
    split
    · have none := table.remedyOf_none (c := v.cell) (by rw [shown_of_condition dim]; nofun)
      exact (h.convertEntry table.run none .detected v.sweep).same rfl
    · exact h.same rfl
  | weak gains =>
    have replaced := h.changeEntry v.cell (fun e => withGains_cell e gains) fun e => withGains_remedy e gains
    exact replaced.same rfl
  | healthy =>
    dsimp only
    split
    · exact (h.removeEntry v.cell).same rfl
    · exact h.same rfl
  | none => exact h

/-- A cell verdict keeps the agreement, by the condition that the cell holds (R46). -/
theorem OwnSparesMatchSites.takeCellVerdict (v : CellVerdict) : OwnSparesMatchSites (takeCellVerdict v s) := by
  have recorded : TableInRun (s.changeCell v.cell fun r => r.recorded (v.judgement.compensated s.cfg.gMax) v) :=
    table.setCell rfl
  have h' : OwnSparesMatchSites (s.changeCell v.cell fun r => r.recorded (v.judgement.compensated s.cfg.gMax) v) :=
    h.same rfl
  have stands : ((s.changeCell v.cell fun r => r.recorded (v.judgement.compensated s.cfg.gMax) v).cell
      v.cell).condition = (s.cell v.cell).condition := by rw [cell_changeCell_same]; rfl
  unfold Machine.takeCellVerdict
  dsimp only
  cases hc : (s.cell v.cell).condition with
  | good => exact h'.judgeGood recorded (stands.trans hc) _
  | suspect => exact h'.judgeSuspect recorded (stands.trans hc) _
  | dim => exact h'.judgeDim recorded (stands.trans hc) _
  | retired => exact h'

end Verdicts

/-! ## Restart, RESCAN and service requests -/

section Requests

variable {s : State} (h : OwnSparesMatchSites s)
include h

/-- Clearing the evidence of the sites leaves their states (R97). -/
theorem OwnSparesMatchSites.evidenceCleared {t : State} (mode : t.mode = s.mode) (entries : t.entries = s.entries)
    (sites : t.sites = s.sites.map SiteRecord.evidenceCleared) : OwnSparesMatchSites t := by
  refine h.same ?_
  have states : t.sites.map SiteRecord.state = s.sites.map SiteRecord.state := by
    ext i
    simp only [sites, Tbl.get_map]
    rfl
  unfold State.spareView State.remedies
  rw [mode, entries, states]

theorem OwnSparesMatchSites.sectionRestart : OwnSparesMatchSites (sectionRestart s) := by
  have unheard : OwnSparesMatchSites (restartSeam s) := h.same rfl
  have dropped := (unheard.freeLost false fun _ => true).dropLost false fun _ => true
  have cleared {t : State} (ht : OwnSparesMatchSites t) : OwnSparesMatchSites (restartEvidence t) :=
    ht.evidenceCleared rfl rfl rfl
  exact ((cleared dropped).rechooseAll (fun _ _ => rfl) false).refresh

theorem OwnSparesMatchSites.rescanPart : OwnSparesMatchSites (rescanPart s) := by
  have cleared : OwnSparesMatchSites (clearSiteEvidence (clearCellEvidence
    { s with probe := s.probe.rescanned })) := h.evidenceCleared rfl rfl rfl
  exact cleared.rechooseAll (fun _ _ => rfl) true

theorem OwnSparesMatchSites.clearRetiredList : OwnSparesMatchSites (clearRetiredList s) := by
  have rebuilt : OwnSparesMatchSites s.listsRebuilt :=
    (h.mapEntries (fun e => withPersisted_cell e false) fun e => withPersisted_remedy e false).same rfl
  unfold Machine.clearRetiredList
  split
  · exact h
  · dsimp only
    split <;> exact rebuilt.same rfl

variable (table : TableInRun s)
include table

theorem OwnSparesMatchSites.carryOut (command : ServiceCommand) : OwnSparesMatchSites (carryOut command s).1 := by
  cases command with
  | querySummary | queryEntry => exact h
  | queryCell x y => unfold Machine.carryOut; dsimp only; split <;> exact h
  | querySite i j => unfold Machine.carryOut; dsimp only; split <;> exact h
  | mark x y => exact onCell_keeps x y s h (h.markCellRetired table)
  | restore x y => exact onCell_keeps x y s h h.restoreCell
  | rescan => exact h.rescanPart
  | clearFlags => exact h.same rfl
  | clearRetired => exact h.clearRetiredList

theorem OwnSparesMatchSites.serviceRequest (rx : Rx) (tag code : Byte) (arguments : List Byte) :
    OwnSparesMatchSites (serviceRequest rx tag code arguments s) := by
  have tagged : OwnSparesMatchSites (s.setLastTag rx.port tag) := h.same rfl
  have handled : OwnSparesMatchSites (handleRequest rx.port tag code arguments s).1 := by
    unfold handleRequest
    split
    · exact tagged
    · dsimp only
      split
      · exact tagged
      · exact tagged.carryOut (table.same ⟨rfl, rfl, rfl⟩) _
  unfold Machine.serviceRequest
  split
  · split
    · exact h.same rfl
    · exact foldl_keeps (P := OwnSparesMatchSites) (fun _ _ ht => OwnSparesMatchSites.enqueue ht _ _) _ _ handled
  · exact h

end Requests

/-! ## Notices: read in RUN alone (R153) -/

section Notices

variable {s : State} (h : OwnSparesMatchSites s) (table : TableSound s)
include h table

theorem OwnSparesMatchSites.receiveWithTable (rx : Rx) {act : State → State}
    (ha : ∀ t, OwnSparesMatchSites t → TableInRun t → OwnSparesMatchSites (act t)) :
    OwnSparesMatchSites (Machine.receive rx act s) := by
  by_cases off : (s.port rx.port).state = .off
  · rw [receive_off off]
    exact h
  · have inRun := tableInRun_seam.updatePresence rx.src s (table.inRun (table.run_of_reads off))
    unfold Machine.receive
    rw [if_neg off]
    split
    · exact h.same rfl
    · dsimp only
      split
      · exact ha _ (h.updatePresence _) inRun
      · exact h.updatePresence _

theorem OwnSparesMatchSites.receiveRequest (rx : Rx) (tag code : Byte) (arguments : List Byte) :
    OwnSparesMatchSites (receiveRequest rx tag code arguments s) := by
  unfold Machine.receiveRequest
  split
  · exact h.receiveWithTable table rx fun _ ht inRun => ht.serviceRequest inRun rx tag code arguments
  · exact h

theorem OwnSparesMatchSites.receiveNotice (p : PortId) (n : Notice) : OwnSparesMatchSites (receiveNotice p n s) := by
  obtain ⟨src, dst, body⟩ := n
  unfold Machine.receiveNotice
  dsimp only
  cases body with
  | sectionRestart =>
    refine h.receive _ fun t ht => ?_
    split
    · exact ht.sectionRestart
    · exact ht
  | grant site c => exact h.receiveFromNeighbour _ fun d _ ht => ht.takeGrant d site c
  | refuse site c reason => exact h.receiveFromNeighbour _ fun d _ ht => ht.takeRefuse d site c reason
  | wait site c => exact h.receiveFromNeighbour _ fun d _ ht => ht.takeWait d site c
  | revoke site c => exact h.receiveFromNeighbour _ fun d _ ht => ht.takeRevoke d site c
  | release site c => exact h.receiveFromNeighbour _ fun d _ ht => ht.takeRelease d site c
  | claim c site _ => exact h.receiveFromNeighbour _ fun d _ ht => ht.takeClaim d c site
  | holdList pairs => exact h.receiveFromNeighbour _ fun d _ ht => ht.takeHoldList d pairs
  | loanList pairs => exact h.receiveFromNeighbour _ fun d _ ht => ht.takeLoanList d pairs
  | fillList edge positions => exact h.receiveFromNeighbour _ fun d _ ht => ht.takeFillList d edge positions
  | serviceRequest tag code arguments =>
    exact h.receiveWithTable table _ fun _ ht inRun => ht.serviceRequest inRun _ tag code arguments
  | report tag kind bytes => exact h.receive _ fun _ ht => ht

end Notices

/-! ## Power, the load and entry to RUN (R78, R80, R167, R174, R175) -/

section Load

variable {s : State}

theorem ownSpares_starting (straps : Pos) (good : Bool) (queue : List Instr) :
    OwnSparesMatchSites (State.starting straps good queue) :=
  ownSpares_of_bare (fun a => by rw [starting_site]; rfl) nofun

theorem ownSpares_holdPart (s : State) : OwnSparesMatchSites (holdPart s) :=
  ownSpares_of_bare (fun a => congrArg SiteRecord.state (starting_site s.position s.supply.input s.pending a)) nofun

/-- Entry to RUN gives each usable site to the first stored cell whose home it is, and the cell its remedy (R73, R85). -/
theorem sparesMatch_atRun (once : (s.entries.map Entry.cell).Nodup) (bare : ∀ e ∈ s.entries, e.remedy = none) :
    s.atRun.SparesMatch := by
  intro c a
  rw [atRun_remedyOf bare, atRun_site, State.siteUpTo, Option.map_eq_some_iff]
  constructor
  · rintro ⟨_, _, spare⟩
    cases home : c.home with
    | own site =>
      rw [remedyAtRun_own s home] at spare
      split_ifs at spare with absent first
      obtain rfl := Remedy.ownSpare.inj spare
      rw [if_neg absent, first]
    | foreign owner site =>
      rw [remedyAtRun_foreign s home] at spare
      cases spare
  · intro own
    split at own
    · cases own
    · rename_i present
      split at own
      · cases own
      · rename_i first
        obtain rfl := SiteState.own.inj own
        obtain ⟨older, e, newer, listed, retired, rfl, home, _⟩ := firstHome_eq_some_iff.mp first
        refine ⟨e, ?_, ?_⟩
        · rw [retiredEntry_of_mem once (by rw [listed]; simp), if_pos retired]
        · rw [remedyAtRun_own s home, if_neg present, if_pos first]

theorem OwnSparesMatchSites.enterRun (h : OwnSparesMatchSites s) (table : TableSound s)
    (loading : s.mode ≠ .run) : OwnSparesMatchSites (enterRun s) := by
  obtain ⟨_, _, once, _⟩ := table
  obtain ⟨_, bare⟩ := h.2 loading
  rw [enterRun_eq s once bare]
  exact ((sparesMatch_atRun once bare).sound rfl).refresh

variable (h : OwnSparesMatchSites s)
include h

theorem OwnSparesMatchSites.takeRetiredList (bytes : Tbl 512 Byte) : OwnSparesMatchSites (takeRetiredList bytes s) := by
  have slots : OwnSparesMatchSites ((List.finRange 128).foldl (loadSlot bytes) s) := by
    refine foldl_keeps (fun t slot ht => ?_) _ _ h
    have mapped (v : Slot) : OwnSparesMatchSites (t.setSlot slot v) := ht.same rfl
    unfold loadSlot
    split
    case h_4 c _ =>
      split
      · exact ht.same rfl
      · exact ((mapped (.live c)).append (e := ⟨c, .stored, .retired none 0 true⟩) rfl).same rfl
    all_goals exact mapped _
  exact slots.same rfl

end Load

/-! ## Video, probing and the store -/

section Store

variable {s : State} (h : OwnSparesMatchSites s)
include h

theorem OwnSparesMatchSites.receiveCode (code : Code) : OwnSparesMatchSites (receiveCode code s) := by
  unfold Machine.receiveCode frameStart
  split
  · exact h
  · split
    · split <;> exact h.same rfl
    · exact h.same rfl

theorem OwnSparesMatchSites.senseReport (number : Fin 256) (samples : List Sample) :
    OwnSparesMatchSites (senseReport number samples s) := by
  have ended (probe : Probe) : OwnSparesMatchSites (endPass { s with probe := probe }) := by
    rw [endPass_eq]
    exact h.same rfl
  unfold Machine.senseReport takeReport
  split
  · split
    · split
      · split
        · dsimp only
          split
          · exact ended _
          · exact h.same rfl
        · exact h.same rfl
      · exact h
    · exact h
  · exact h

theorem OwnSparesMatchSites.completeAppend (c : Cell) : OwnSparesMatchSites (completeAppend c s) := by
  unfold Machine.completeAppend
  split
  · exact h
  · exact h.changeEntry c (fun e => withPersisted_cell e true) fun e => withPersisted_remedy e true

theorem OwnSparesMatchSites.beginAppend (c : Cell) (o : Origin) : OwnSparesMatchSites (beginAppend c o s) := by
  unfold Machine.beginAppend
  split
  · exact h.completeAppend c
  · split <;> exact h.same rfl

theorem OwnSparesMatchSites.beginWrite : OwnSparesMatchSites (beginWrite s) := by
  have queued (store : Machine.Store) : OwnSparesMatchSites { s with store := store } := h.same rfl
  unfold Machine.beginWrite
  split
  · split
    · exact (queued _).beginAppend _ _
    · split
      · exact (queued _).beginAppend _ _
      · exact h.same rfl
      · exact h.same rfl
  · exact h

theorem OwnSparesMatchSites.endWrite (completed : Bool) : OwnSparesMatchSites (endWrite completed s) := by
  have ended (store : Machine.Store) : OwnSparesMatchSites { s with store := store } := h.same rfl
  have erased {t : State} (ht : OwnSparesMatchSites t) : OwnSparesMatchSites (eraseIfWaiting t) := by
    unfold eraseIfWaiting
    split
    · exact ht.same rfl
    · exact ht
  unfold Machine.endWrite
  split
  · refine erased ?_
    split
    · exact (ended _).completeAppend _
    · exact h.same rfl
  · refine erased ?_
    split <;> exact h.same rfl
  · exact h

theorem OwnSparesMatchSites.endErase (finished : Bool) : OwnSparesMatchSites (endErase finished s) := by
  unfold Machine.endErase
  dsimp only
  split <;> exact h.same rfl

theorem OwnSparesMatchSites.portFailed (p : PortId) : OwnSparesMatchSites (portFailed p s) := by
  unfold Machine.portFailed
  dsimp only
  split <;> exact h.same rfl

end Store

/-! ## Every command -/

/-- Every command keeps the remedies and the sites in agreement, the remap table being sound. -/
theorem OwnSparesMatchSites.after {s : State} (h : OwnSparesMatchSites s) (table : TableSound s) (c : Instr) :
    OwnSparesMatchSites (s.after c) := by
  have ite {p : Prop} [Decidable p] {t u : State} (ht : p → OwnSparesMatchSites t) (hu : OwnSparesMatchSites u) :
      OwnSparesMatchSites (if p then t else u) := by
    split
    · rename_i hp
      exact ht hp
    · exact hu
  have seam (rx : Rx) (body : NoticeBody) :
      OwnSparesMatchSites (Machine.receiveNotice rx.port ⟨rx.src, rx.dst, body⟩ s) := h.receiveNotice table rx.port _
  have taken (handed : Handed) : OwnSparesMatchSites { s with handed := handed } := h.same rfl
  cases c with
  | powerOn straps => exact ownSpares_starting straps _ _
  | resetAssert => exact ownSpares_holdPart s
  | resetRelease straps => exact ownSpares_starting straps _ _
  | storeReadyAtLoad | storeMissingTimeout => exact ite (fun _ => h.same rfl) h
  | configRecordRead bytes => exact ite (fun _ => h.same (by unfold takeRecord; split <;> rfl)) h
  | calibrationAreaRead bytes => exact ite (fun _ => h.same (by unfold takeCalibration; split <;> rfl)) h
  | retiredListRead bytes => exact ite (fun _ => h.takeRetiredList bytes) h
  | enterRun =>
    refine ite (fun at_ => h.enterRun table fun run => ?_) h
    simp [State.loadsAt, run] at at_
  | frameBeginMarker => exact ite (fun _ => h) (h.same rfl)
  | videoCode code => exact ite (fun _ => h) (h.receiveCode code)
  | driveFrameSent => exact h.same rfl
  | lossTimerLost | lossTimerDark | reEmitTick | darkFrameTick => exact ite (fun _ => h.same rfl) h
  | senseReport number samples => exact h.senseReport number samples
  | stallTimerExpiry => exact ite (fun _ => h) (h.same rfl)
  | overrideAppend =>
    show OwnSparesMatchSites (settled s (execOverrideAppend s))
    unfold execOverrideAppend
    split
    · exact h
    · exact h.same rfl
  | supplyLow => exact ite (fun _ => h.same rfl) (h.same rfl)
  | supplyHigh => exact ite (fun _ => h.same rfl) (h.same rfl)
  | cellVerdict =>
    show OwnSparesMatchSites (settled s (execCellVerdict s))
    unfold execCellVerdict
    split
    · exact h
    · rename_i handed
      exact (taken _).takeCellVerdict (table.handedOn (by rintro none; rw [none] at handed; cases handed) _) _
  | siteVerdict =>
    show OwnSparesMatchSites (settled s (execSiteVerdict s))
    unfold execSiteVerdict
    split
    · exact h
    · exact (taken _).takeSiteVerdict _
  | sweepEnd => exact ite (fun _ => h) (taken _).takeSweepEnd
  | claimRetryExpiry cell => exact h.retryClaim cell
  | holdExpiry site => exact h.endHold site
  | neighbourSilent d => exact h.silenceNeighbour d
  | refreshTimerExpiry => exact ite (fun _ => h) h.refresh
  | idleGapAttempt | attemptWon | contentionLost | quietTimerExpiry => exact h.same rfl
  | attemptFailed p => exact h.portFailed p
  | noticeMalformed p bits =>
    show OwnSparesMatchSites (settled s (execNoticeMalformed p bits s))
    unfold execNoticeMalformed
    cases readNotice bits with
    | none => exact h
    | some n => exact h.receiveNotice table p n
  | claimReceived rx c site n => exact seam rx (.claim c site n)
  | grantReceived rx site c => exact seam rx (.grant site c)
  | waitReceived rx site c => exact seam rx (.wait site c)
  | refuseReceived rx site c reason => exact seam rx (.refuse site c reason)
  | revokeReceived rx site c => exact seam rx (.revoke site c)
  | releaseReceived rx site c => exact seam rx (.release site c)
  | holdListReceived rx pairs => exact ite (fun _ => seam rx (.holdList pairs)) h
  | loanListReceived rx pairs => exact ite (fun _ => seam rx (.loanList pairs)) h
  | fillListReceived rx edge positions => exact ite (fun _ => seam rx (.fillList edge positions)) h
  | reportReceived rx tag kind body => exact ite (fun _ => seam rx (.report tag kind body)) h
  | sectionRestart rx => exact seam rx .sectionRestart
  | querySummary rx tag => exact h.receiveRequest table rx tag 0 []
  | queryCell rx tag x y => exact h.receiveRequest table rx tag 1 [x, y]
  | querySite rx tag i j => exact h.receiveRequest table rx tag 2 [i, j]
  | queryEntry rx tag n => exact h.receiveRequest table rx tag 3 [n]
  | mark rx tag x y => exact h.receiveRequest table rx tag 4 [x, y]
  | restore rx tag x y => exact h.receiveRequest table rx tag 5 [x, y]
  | rescan rx tag => exact h.receiveRequest table rx tag 6 []
  | clearFlags rx tag => exact h.receiveRequest table rx tag 7 []
  | clearRetired rx tag => exact h.receiveRequest table rx tag 8 []
  | serviceRequestUnknown rx tag code arguments => exact h.receiveRequest table rx tag code arguments
  | storeWriteBegin => exact h.beginWrite
  | storeWriteEnd error readBack => exact ite (fun _ => h.endWrite _) h
  | storeWriteTimeout => exact ite (fun _ => h.endWrite _) h
  | storeEraseEnd error => exact ite (fun _ => h.endErase _) h
  | storeEraseTimeout => exact ite (fun _ => h.endErase _) h

/-! ## Every step -/

/-- A tick counts in ASKING remedies alone (R115). -/
theorem ticked_remedy (e : Entry) {r : Option Remedy} (still : ∀ owner site n timer, r ≠ some (.asking owner site n timer)) :
    e.ticked.remedy = r ↔ e.remedy = r := by
  obtain ⟨c, o, body⟩ := e
  cases body with
  | dim gains => rfl
  | retired remedy at_ persisted =>
    obtain _ | remedy := remedy
    · rfl
    · cases remedy with
      | asking owner site n timer =>
        exact ⟨fun is => absurd is.symm (still _ _ _ _), fun is => absurd is.symm (still _ _ _ _)⟩
      | ownSpare | loan | fill => rfl

/-- A tick counts at HELD sites alone (R89). -/
theorem ticked_state (x : SiteRecord) {st : SiteState} (still : ∀ d c n, st ≠ .held d c n) :
    x.ticked.state = st ↔ x.state = st := by
  obtain ⟨state, proven, run, last⟩ := x
  cases state with
  | held d c n => exact ⟨fun is => absurd is.symm (still _ _ _), fun is => absurd is.symm (still _ _ _)⟩
  | absent | free | own | lent | faulty => rfl

theorem OwnSparesMatchSites.timersCounted {s : State} (h : OwnSparesMatchSites s) :
    OwnSparesMatchSites s.timersCounted := by
  rw [timersCounted_eq]
  have site (a : Site) : (advanceTimers s).site a = (s.site a).ticked := Tbl.get_map _ _ _
  have entry (c : Cell) : (advanceTimers s).entryOf c = (s.entryOf c).map Entry.ticked := by
    show (s.entries.map Entry.ticked).find? _ = (s.entries.find? _).map _
    simp only [List.find?_map, Function.comp_def, ticked_cell]
  refine ⟨fun c a => ?_, fun off => ⟨fun a => ?_, fun e mem => ?_⟩⟩
  · rw [site, ticked_state _ (st := .own c) nofun, ← h.1 c a]
    unfold State.remedyOf
    rw [entry]
    cases s.entryOf c with
    | none => rfl
    | some e => exact ticked_remedy e nofun
  · rw [site, ticked_state _ (st := .absent) nofun]
    exact (h.2 off).1 a
  · obtain ⟨x, old, rfl⟩ := List.mem_map.mp mem
    exact (ticked_remedy x (r := none) nofun).mpr ((h.2 off).2 x old)

/-- Settles O59: every command and the count of the timers keep the agreement while the table is sound, so every step does. -/
theorem stepKeepsOwnSpares : Obligations.StepKeepsOwnSpares := fun _ _ table h e =>
  (step_keeps (P := fun s => TableSound s ∧ OwnSparesMatchSites s)
    (fun _ c kept => ⟨kept.1.after c, kept.2.after kept.1 c⟩)
    (fun _ kept => ⟨kept.1.timersCounted, kept.2.timersCounted⟩)
    (fun _ _ kept => ⟨kept.1.same rfl, kept.2.same rfl⟩) ⟨table, h⟩ e).2

end Sys2Proof.Machine
end

section
/-! The choice of a RETIRED entry's remedy, in the words of the statements (R72 to R74, R76, R79, R127, R146). -/

namespace Sys2Proof.Machine

section Choices

variable {s : State} {c : Cell} {e : Entry}

theorem chooseRemedy_none (h : s.retiredEntry c = none) (announce : Bool) : chooseRemedy announce c s = s := by
  unfold chooseRemedy
  rw [h]

/-- The choice for a cell whose home is another tile's (R74). -/
theorem chooseRemedy_foreign (h : s.retiredEntry c = some e) {owner : OwnerDir} {site : Site}
    (home : c.home = .foreign owner site) (announce : Bool) : chooseRemedy announce c s =
      giveRemedy announce c (claimTests owner site s) s := by
  unfold chooseRemedy
  rw [h, home]

/-- The choice for a cell whose home is an own site (R73). -/
theorem chooseRemedy_own (h : s.retiredEntry c = some e) {site : Site} (home : c.home = .own site) (announce : Bool) :
    chooseRemedy announce c s =
      if (s.site site).state = .free then giveRemedy announce c (.ownSpare site) (s.setSiteState site (.own c))
      else giveRemedy announce c (.fill (busyReason (s.site site).state)) s := by
  unfold chooseRemedy
  rw [h, home]

end Choices

/-- Settles O27: by the home site of the cell, its state, and the owner's presence. -/
theorem remedyChosen : Obligations.RemedyChosen := by
  refine ⟨fun announce c s none => chooseRemedy_none none announce, fun announce c e s retired => ?_,
    fun announce calls s => ?_⟩
  · intro given
    refine ⟨fun site home => ?_, fun owner site home => ?_⟩
    · have chosen := chooseRemedy_own retired home announce
      have busy {st : SiteState} (state : (s.site site).state = st) (notFree : st ≠ .free) :
          chooseRemedy announce c s = given (.fill (busyReason st)) s := by
        rw [chosen, state, if_neg notFree, giveRemedy_told retired]
        rfl
      refine ⟨fun free => ?_, fun absent => busy absent nofun, fun faulty => busy faulty nofun, ?_⟩
      · rw [chosen, if_pos free, giveRemedy_told (s := s.setSiteState site (.own c)) retired]
        rfl
      · rintro (⟨_, own⟩ | ⟨_, _, lent⟩ | ⟨_, _, _, held⟩)
        · exact busy own nofun
        · exact busy lent nofun
        · exact busy held nofun
    · have chosen {r : Remedy} (tests : claimTests owner site s = r) : chooseRemedy announce c s =
          (beginClaim c r (s.writeRemedy c r)).told announce c e.isFilled r.isFilled := by
        rw [chooseRemedy_foreign retired home, tests, giveRemedy_told retired]
      refine ⟨fun none => chosen (r := .fill .noNeighbour) (by unfold claimTests; rw [none]), fun nb there => ?_⟩
      refine ⟨fun off => chosen (r := .fill .lendingOff) ?_, fun on away => chosen (r := .fill .ownerSilent) ?_,
        fun on present => chosen (r := .asking owner site 1 0) ?_⟩ <;>
      · unfold claimTests
        rw [there]
        simp [*]
  · unfold rechooseAll
    congr 1
    funext t c
    unfold rechoose
    cases t.remedyOf c <;> rfl

end Sys2Proof.Machine
end

section
/-! Re-claims of filled entries: one in the words of the statements, those of a sweep end, and those of a LOAN_LIST; and the answers that end a claim or a loan, REFUSE and REVOKE (R74, R75, R116, R122, R123, R127, R128, R132). -/

namespace Sys2Proof.Machine

/-! ## One re-claim (R127) -/

section Reclaim

variable {s : State} {c : Cell}

theorem claimTests_eq (owner : OwnerDir) (site : Site) (s : State) :
    claimTests owner site s = s.claimResult owner site := by
  unfold claimTests State.claimResult
  cases s.neighbour owner.toDir with
  | none => rfl
  | some nb => cases s.cfg.lending <;> rfl

/-- The tests of R74 give a FILL or the ASKING of a first attempt. -/
theorem claimResult_cases (s : State) (owner : OwnerDir) (site : Site) :
    (∃ why, s.claimResult owner site = .fill why ∧ why ≠ .noAnswer ∧ why ≠ .refusedInUse) ∨
      s.claimResult owner site = .asking owner site 1 0 := by
  unfold State.claimResult
  split
  · exact Or.inl ⟨_, rfl, nofun, nofun⟩
  · split_ifs
    · exact Or.inl ⟨_, rfl, nofun, nofun⟩
    · exact Or.inr rfl
    · exact Or.inl ⟨_, rfl, nofun, nofun⟩

/-- The choice for a filled cell is its re-claim: it stays filled, or has an own home. -/
theorem chooseRemedy_reclaimed {e : Entry} (retired : s.retiredEntry c = some e) (filled : e.isFilled = true) :
    chooseRemedy true c s = s.reclaimed c := by
  unfold State.reclaimed
  cases home : c.home with
  | own site => rfl
  | foreign owner site =>
    dsimp only
    rw [chooseRemedy_foreign retired home, claimTests_eq, giveRemedy_told retired, filled]
    obtain ⟨why, result, _⟩ | result := claimResult_cases s owner site <;> rw [result] <;> rfl

/-- A choice leaves every other cell's remedy (R71). -/
theorem remedyOf_chooseRemedy_other {d : Cell} (apart : c ≠ d) (announce : Bool) :
    (chooseRemedy announce c s).remedyOf d = s.remedyOf d := by
  cases retired : s.retiredEntry c with
  | none => rw [chooseRemedy_none retired]
  | some e =>
    rw [chooseRemedy_choice retired, remedyOf_giveRemedy, if_neg fun both => apart both.1, homeTaken_remedyOf]

theorem choice_foreign {owner : OwnerDir} {site : Site} (home : c.home = .foreign owner site) :
    s.choice c = s.claimResult owner site := by
  unfold State.choice
  rw [home]
  exact claimTests_eq owner site s

theorem OnlyRemedies.claimResult {t : State} (h : OnlyRemedies s t) (owner : OwnerDir) (site : Site) :
    t.claimResult owner site = s.claimResult owner site := by
  unfold State.claimResult
  rw [h.neighbour, h.cfg]

end Reclaim

/-! ## Cells taken one after another -/

/-- Cells taken one after another, each by its own remedy, are the cells whose remedies called for it at the start. -/
theorem foldl_cells {f g : State → Cell → State} {picks : Cell → Option Remedy → Bool}
    (taken : ∀ t c, picks c (t.remedyOf c) = true → f t c = g t c)
    (passed : ∀ t c, picks c (t.remedyOf c) = false → f t c = t)
    (others : ∀ t c d, c ≠ d → (f t c).remedyOf d = t.remedyOf d) (s : State) (cells : List Cell)
    (once : cells.Nodup) (t : State) (same : ∀ c ∈ cells, t.remedyOf c = s.remedyOf c) :
    cells.foldl f t = (cells.filter fun c => picks c (s.remedyOf c)).foldl g t := by
  induction cells generalizing t with
  | nil => rfl
  | cons c cells ih =>
    obtain ⟨apart, once⟩ := List.nodup_cons.mp once
    have here : t.remedyOf c = s.remedyOf c := same c List.mem_cons_self
    have later : ∀ d ∈ cells, (f t c).remedyOf d = s.remedyOf d := fun d mem =>
      (others t c d fun is => apart (is ▸ mem)).trans (same d (List.mem_cons_of_mem _ mem))
    rw [List.foldl_cons, ih once _ later, List.filter_cons, ← here]
    cases called : picks c (t.remedyOf c) with
    | true => rw [if_pos rfl, List.foldl_cons, taken t c called]
    | false => rw [if_neg Bool.false_ne_true, passed t c called]

/-- With one entry for each cell, the cells picked by their remedies are those of the entries picked by theirs. -/
theorem filter_cells {s : State} (once : (s.entries.map Entry.cell).Nodup) (picks : Cell → Option Remedy → Bool) :
    ((s.entries.map Entry.cell).filter fun c => picks c (s.remedyOf c)) =
      (s.entries.filter fun e => picks e.cell e.remedy).map Entry.cell := by
  rw [List.filter_map]
  congr 1
  refine List.filter_congr fun e mem => ?_
  rw [Function.comp_apply, State.remedyOf, entryOf_of_mem once mem, Option.bind_some]

section Turns

variable {f : State → Cell → State} {c : Cell}

/-- A cell whose turn does nothing while its remedy stands keeps its remedy. -/
theorem foldl_stands {r : Option Remedy} (turn : ∀ t, t.remedyOf c = r → f t c = t)
    (others : ∀ t d, d ≠ c → (f t d).remedyOf c = t.remedyOf c) (cells : List Cell) {s : State}
    (h : s.remedyOf c = r) : (cells.foldl f s).remedyOf c = r := by
  refine foldl_keeps (P := fun t => t.remedyOf c = r) (fun t d ht => ?_) cells s h
  by_cases same : d = c
  · subst same
    rw [turn t ht]
    exact ht
  · exact (others t d same).trans ht

/-- A cell's remedy after all turns is what its first turn makes of it, when a further turn makes no more of that. -/
theorem foldl_turns {I : State → Prop} {F : Option Remedy → Option Remedy} (stays : ∀ t d, I t → I (f t d))
    (turn : ∀ t, I t → (f t c).remedyOf c = F (t.remedyOf c))
    (others : ∀ t d, d ≠ c → (f t d).remedyOf c = t.remedyOf c) (final : ∀ r, F (F r) = F r) {cells : List Cell}
    (mem : c ∈ cells) {s : State} (h : I s) : (cells.foldl f s).remedyOf c = F (s.remedyOf c) := by
  refine foldl_establishes (I := fun t => I t ∧ F (t.remedyOf c) = F (s.remedyOf c))
    (Q := fun d t => d = c → t.remedyOf c = F (s.remedyOf c)) (fun t d ⟨ht, same⟩ => ⟨stays t d ht, ?_⟩)
    (fun t d ⟨ht, same⟩ is => ?_) (fun t d b ⟨ht, same⟩ done is => ?_) cells s ⟨h, rfl⟩ c mem rfl
  · by_cases is : d = c
    · rw [is, turn t ht, final, same]
    · rw [others t d is, same]
  · rw [is, turn t ht, same]
  · by_cases here : b = c
    · rw [here, turn t ht, same]
    · rw [others t b here, done is]

end Turns

/-! ## A sweep end (R128) -/

/-- What a sweep end re-claims: FILL(NO_ANSWER) and FILL(REFUSED_IN_USE). -/
def sweptRemedy (r : Option Remedy) : Bool :=
  decide (r = some (.fill .noAnswer) ∨ r = some (.fill .refusedInUse))

/-- One cell's turn at a sweep end. -/
def State.swept (s : State) (c : Cell) : State :=
  rechoose true (fun _ r => r.isFillWith [.noAnswer, .refusedInUse]) s c

section Sweep

variable {s : State} {c : Cell}

theorem swept_fill {r : Option Remedy} (h : sweptRemedy r = true) : ∃ why, r = some (.fill why) :=
  (of_decide_eq_true h).elim (⟨_, ·⟩) (⟨_, ·⟩)

theorem swept_called (h : sweptRemedy (s.remedyOf c) = true) : s.swept c = chooseRemedy true c s := by
  unfold State.swept rechoose
  obtain had | had := of_decide_eq_true h <;> rw [had] <;> rfl

theorem swept_passed (h : sweptRemedy (s.remedyOf c) = false) : s.swept c = s := by
  unfold State.swept rechoose
  cases had : s.remedyOf c with
  | none => rfl
  | some r =>
    rw [had] at h
    cases r with
    | fill why =>
      cases why with
      | noAnswer | refusedInUse => cases h
      | quadBusy | siteFaulty | siteAbsent | noNeighbour | lendingOff | ownerSilent | refusedFaulty | refusedNoSite
      | refusedWrongSite | revoked => rfl
    | ownSpare | loan | asking => rfl

theorem swept_other {d : Cell} (apart : c ≠ d) : (s.swept c).remedyOf d = s.remedyOf d := by
  cases called : sweptRemedy (s.remedyOf c) with
  | true => rw [swept_called called, remedyOf_chooseRemedy_other apart]
  | false => rw [swept_passed called]

theorem swept_onlyRemedies (s : State) (c : Cell) : OnlyRemedies s (s.swept c) :=
  (onlyRemedies_kept s).rechoose _ _ s c (.refl s)

theorem swept_reclaimed (h : sweptRemedy (s.remedyOf c) = true) : s.swept c = s.reclaimed c := by
  obtain ⟨why, had⟩ := swept_fill h
  obtain ⟨e, retired, remedy⟩ := retiredEntry_of_remedyOf had
  rw [swept_called h, chooseRemedy_reclaimed retired (by rw [Entry.isFilled, remedy]; rfl)]

theorem takeSweepEnd_eq (s : State) : takeSweepEnd s = (s.entries.map Entry.cell).foldl State.swept s := rfl

/-- A cell whose remedy does not call for a re-claim keeps it. -/
theorem takeSweepEnd_passed (h : sweptRemedy (s.remedyOf c) = false) : (takeSweepEnd s).remedyOf c = s.remedyOf c :=
  foldl_stands (f := State.swept) (fun _ ht => swept_passed (by rw [ht, h])) (fun _ _ apart => swept_other apart) _ rfl

/-- A cell whose remedy calls for a re-claim has the result of the tests of R74, which calls for none. -/
theorem takeSweepEnd_called (h : sweptRemedy (s.remedyOf c) = true) {owner : OwnerDir} {site : Site}
    (home : c.home = .foreign owner site) : (takeSweepEnd s).remedyOf c = some (s.claimResult owner site) := by
  have done : sweptRemedy (some (s.claimResult owner site)) = false := by
    obtain ⟨why, result, noAnswer, inUse⟩ | result := claimResult_cases s owner site <;> rw [result]
    · simp [sweptRemedy, noAnswer, inUse]
    · rfl
  obtain ⟨why, had⟩ := swept_fill h
  have turned := foldl_turns (f := State.swept) (c := c) (I := OnlyRemedies s)
    (F := fun r => if sweptRemedy r then some (s.claimResult owner site) else r)
    (fun t d only => only.trans (swept_onlyRemedies t d)) (fun t only => ?_) (fun _ _ apart => swept_other apart)
    (fun r => ?_) (mem_cells_of_remedyOf had) (.refl s)
  · rw [takeSweepEnd_eq, turned, if_pos h]
  · cases called : sweptRemedy (t.remedyOf c) with
    | true =>
      obtain ⟨why, had⟩ := swept_fill called
      rw [swept_called called, remedyOf_chooseRemedy had, if_pos rfl, choice_foreign home, only.claimResult]
      rfl
    | false =>
      rw [swept_passed called]
      rfl
  · cases called : sweptRemedy r <;> simp [called, done]

end Sweep

/-- The state with a sweep end taken from what is handed on (R36, R128). -/
def State.sweepEndTaken (s : State) : State :=
  { s with handed := { s.handed with sweepEnds := s.handed.sweepEnds - 1 } }

/-- Settles O29: each cell's turn, by its remedy, and with one entry per cell the turns in entry order. -/
theorem sweepEndReclaims : Obligations.SweepEndReclaims := by
  intro s
  have taken (some : s.handed.sweepEnds ≠ 0) : exec .sweepEnd s = .next (takeSweepEnd s.sweepEndTaken) :=
    congrArg Host.Outcome.next (if_neg some)
  refine ⟨fun none => congrArg Host.Outcome.next (if_pos none), fun some => ⟨_, taken some, ?_, fun c => ⟨?_, ?_⟩⟩,
    fun some once => ?_⟩
  · exact (onlyRemedies_kept _).takeSweepEnd _ (.refl _)
  · exact fun called owner site home => takeSweepEnd_called (s := s.sweepEndTaken) (decide_eq_true called) home
  · exact fun noAnswer inUse => takeSweepEnd_passed (s := s.sweepEndTaken) (decide_eq_false (not_or.mpr ⟨noAnswer, inUse⟩))
  · rw [taken some, takeSweepEnd_eq]
    refine congrArg Host.Outcome.next ((foldl_cells (picks := fun _ r => sweptRemedy r)
      (fun _ _ => swept_reclaimed) (fun _ _ => swept_passed) (fun _ _ _ => swept_other) _ _ once _
      fun _ _ => rfl).trans ?_)
    exact congrArg (fun cells => List.foldl State.reclaimed _ cells) (filter_cells once fun _ r => sweptRemedy r)

/-! ## A LOAN_LIST (R132) -/

/-- Whether a remedy is a LOAN from an owner that its list omits. -/
def omittedLoan (owner : OwnerDir) (pairs : List LoanPair) (c : Cell) : Option Remedy → Bool
  | some (.loan owner' site) => decide (owner' = owner ∧ (⟨site, c⟩ : LoanPair) ∉ pairs)
  | _ => false

section LoanList

variable {owner : OwnerDir} {pairs : List LoanPair} {s : State} {c : Cell}

theorem omittedLoan_iff {r : Option Remedy} : omittedLoan owner pairs c r = true ↔
    ∃ site, r = some (.loan owner site) ∧ (⟨site, c⟩ : LoanPair) ∉ pairs := by
  unfold omittedLoan
  split
  · rename_i owner' site
    rw [decide_eq_true_eq]
    constructor
    · rintro ⟨rfl, omitted⟩
      exact ⟨site, rfl, omitted⟩
    · rintro ⟨_, ⟨⟩, omitted⟩
      exact ⟨rfl, omitted⟩
  · rename_i other
    exact ⟨nofun, fun ⟨_, is, _⟩ => absurd is (other _ _)⟩

/-- An omitted loan is revoked, and its cell's remedy chosen at once. -/
theorem checkLoan_called (h : omittedLoan owner pairs c (s.remedyOf c) = true) :
    checkLoan owner pairs s c = chooseRemedy true c (giveRemedy true c (.fill .revoked) s) := by
  obtain ⟨site, loan, omitted⟩ := omittedLoan_iff.mp h
  unfold checkLoan
  rw [loan]
  exact if_pos ⟨rfl, omitted⟩

theorem checkLoan_passed (h : omittedLoan owner pairs c (s.remedyOf c) = false) : checkLoan owner pairs s c = s := by
  unfold checkLoan
  split
  · rename_i owner' site loan
    rw [loan] at h
    exact if_neg (of_decide_eq_false h)
  · rfl

theorem remedyOf_revoked {r : Remedy} (had : s.remedyOf c = some r) :
    (giveRemedy true c (.fill .revoked) s).remedyOf c = some (.fill .revoked) := by
  obtain ⟨e, retired, _⟩ := retiredEntry_of_remedyOf had
  rw [remedyOf_giveRemedy, if_pos ⟨rfl, Option.isSome_of_eq_some retired⟩]

theorem checkLoan_other {d : Cell} (apart : c ≠ d) : (checkLoan owner pairs s c).remedyOf d = s.remedyOf d := by
  cases called : omittedLoan owner pairs c (s.remedyOf c) with
  | true => rw [checkLoan_called called, remedyOf_chooseRemedy_other apart, remedyOf_giveRemedy, if_neg fun both => apart both.1]
  | false => rw [checkLoan_passed called]

theorem checkLoan_onlyRemedies (owner : OwnerDir) (pairs : List LoanPair) (s : State) (c : Cell) :
    OnlyRemedies s (checkLoan owner pairs s c) := (onlyRemedies_kept s).checkLoan owner pairs s c (.refl s)

/-- An omitted loan in the words of the statement: FILL(REVOKED) told, then re-claimed. -/
theorem checkLoan_reclaimed (h : omittedLoan owner pairs c (s.remedyOf c) = true) :
    checkLoan owner pairs s c = ((s.writeRemedy c (.fill .revoked)).nowFilled c).reclaimed c := by
  obtain ⟨site, loan, _⟩ := omittedLoan_iff.mp h
  obtain ⟨e, retired, unfilled⟩ := unfilled_of_loan loan
  obtain ⟨e', retired', remedy⟩ := retiredEntry_of_remedyOf (remedyOf_revoked loan)
  rw [checkLoan_called h, chooseRemedy_reclaimed retired' (by rw [Entry.isFilled, remedy]; rfl),
    giveRemedy_nowFilled retired unfilled rfl, beginClaim_fill]

/-- An omitted loan's cell has the result of the tests of R74. -/
theorem remedyOf_checkLoan (h : omittedLoan owner pairs c (s.remedyOf c) = true) {owner' : OwnerDir} {site : Site}
    (home : c.home = .foreign owner' site) :
    (checkLoan owner pairs s c).remedyOf c = some (s.claimResult owner' site) := by
  obtain ⟨_, loan, _⟩ := omittedLoan_iff.mp h
  have only := (onlyRemedies_kept s).giveRemedy true c (.fill .revoked) s (.refl s)
  rw [checkLoan_called h, remedyOf_chooseRemedy (remedyOf_revoked loan), if_pos rfl, choice_foreign home,
    only.claimResult]

/-- The table after the first step of a LOAN_LIST. -/
def State.loansChecked (s : State) (owner : OwnerDir) (pairs : List LoanPair) : State :=
  (s.entries.map Entry.cell).foldl (checkLoan owner pairs) s

theorem loansChecked_onlyRemedies (s : State) (owner : OwnerDir) (pairs : List LoanPair) :
    OnlyRemedies s (s.loansChecked owner pairs) :=
  foldl_keeps (P := OnlyRemedies s) (fun t c ht => ht.trans (checkLoan_onlyRemedies owner pairs t c)) _ s (.refl s)

/-- A cell without an omitted loan keeps its remedy. -/
theorem loansChecked_passed (h : omittedLoan owner pairs c (s.remedyOf c) = false) :
    (s.loansChecked owner pairs).remedyOf c = s.remedyOf c :=
  foldl_stands (f := checkLoan owner pairs) (fun _ ht => checkLoan_passed (by rw [ht, h]))
    (fun _ _ apart => checkLoan_other apart) _ rfl

theorem loansChecked_called (h : omittedLoan owner pairs c (s.remedyOf c) = true) {owner' : OwnerDir} {site : Site}
    (home : c.home = .foreign owner' site) :
    (s.loansChecked owner pairs).remedyOf c = some (s.claimResult owner' site) := by
  obtain ⟨_, loan, _⟩ := omittedLoan_iff.mp h
  have done : omittedLoan owner pairs c (some (s.claimResult owner' site)) = false := by
    obtain ⟨why, result, _⟩ | result := claimResult_cases s owner' site <;> rw [result] <;> rfl
  have turned := foldl_turns (f := checkLoan owner pairs) (c := c) (I := OnlyRemedies s)
    (F := fun r => if omittedLoan owner pairs c r then some (s.claimResult owner' site) else r)
    (fun t d only => only.trans (checkLoan_onlyRemedies owner pairs t d)) (fun t only => ?_)
    (fun _ _ apart => checkLoan_other apart) (fun r => ?_) (mem_cells_of_remedyOf loan) (.refl s)
  · exact turned.trans (if_pos h)
  · cases called : omittedLoan owner pairs c (t.remedyOf c) with
    | true =>
      rw [remedyOf_checkLoan called home, only.claimResult]
      rfl
    | false =>
      rw [checkLoan_passed called]
      rfl
  · cases called : omittedLoan owner pairs c r <;> simp [called, done]

/-- With one entry per cell, the omitted loans are revoked and claimed again in entry order. -/
theorem loansChecked_eq (once : (s.entries.map Entry.cell).Nodup) : s.loansChecked owner pairs =
    (s.entries.filterMap fun e =>
      match e.remedy with
      | some (.loan owner' site) =>
        if owner' = owner ∧ (⟨site, e.cell⟩ : LoanPair) ∉ pairs then some e.cell else none
      | _ => none).foldl (fun t c => ((t.writeRemedy c (.fill .revoked)).nowFilled c).reclaimed c) s := by
  refine (foldl_cells (fun _ _ => checkLoan_reclaimed) (fun _ _ => checkLoan_passed)
    (fun _ _ _ => checkLoan_other) s _ once s fun _ _ => rfl).trans ?_
  rw [filter_cells once, ← List.filterMap_eq_map, List.filterMap_filter]
  congr 2
  funext e
  unfold omittedLoan
  cases e.remedy with
  | none => rfl
  | some r => cases r <;> simp

/-- The second step of a LOAN_LIST: sending a RELEASE leaves every remedy (R132). -/
theorem foldl_answerPair (owner : OwnerDir) (u : State) (pairs : List LoanPair) (t : State)
    (same : ∀ c, t.remedyOf c = u.remedyOf c) : pairs.foldl (answerPair owner) t =
      pairs.foldl (fun t pair => if u.remedyOf pair.cell = some (.loan owner pair.site) then t
        else sendTo owner.toDir (.release pair.site pair.cell) t) t := by
  induction pairs generalizing t with
  | nil => rfl
  | cons pair pairs ih =>
    have answered : answerPair owner t pair = if u.remedyOf pair.cell = some (.loan owner pair.site) then t
        else sendTo owner.toDir (.release pair.site pair.cell) t := by
      unfold answerPair
      rw [same]
      rfl
    rw [List.foldl_cons, List.foldl_cons, answered]
    refine ih _ fun c => ?_
    split
    · exact same c
    · rw [(sendTo_onlySends _ _ _).remedyOf, same]

end LoanList

theorem toDir_of_owner {d : Dir} {owner : OwnerDir} (h : d.owner = some owner) : owner.toDir = d := by
  cases d <;> cases h <;> rfl

/-- The neighbour that a notice comes from is PRESENT once it is heard (R10, R139). -/
theorem updatePresence_present {s : State} {src : Pos} {d : Dir} (direction : s.directionOf src = some d) :
    ∃ nb, (updatePresence src s).neighbour d = some nb ∧ nb.presence = .present := by
  have first := direction
  unfold State.directionOf at first
  have found := List.find?_some first
  obtain ⟨nb, there, _⟩ := (Option.any_eq_true _ _).mp found
  refine ⟨⟨nb.position, .present, some 0⟩, ?_, rfl⟩
  rw [updatePresence_direction direction there]
  dsimp only
  split
  · exact neighbour_setNeighbour_same _ _ _
  · have only := (onlyRemedies_kept _).neighbourReturned d _
      (.refl (s.setNeighbour d (some ⟨nb.position, .present, some 0⟩)))
    rw [only.neighbour, neighbour_setNeighbour_same]

/-- Settles O43: the turns of the cells, each by its remedy, then the pairs, each by its cell's remedy. -/
theorem loanListTaken : Obligations.LoanListTaken := by
  intro s rx d pairs takes short h
  have taken : exec (.loanListReceived rx pairs) s = .next (takeLoanList d pairs h) :=
    congrArg Host.Outcome.next ((if_pos (decide_eq_true short)).trans (receiveFromNeighbour_takes takes _))
  refine ⟨fun other => ?_, ?_⟩
  · rw [taken]
    unfold takeLoanList
    cases is : d.owner with
    | none => rfl
    | some owner => exact absurd (toDir_of_owner is) (other owner)
  · rintro owner rfl
    have tests (site : Site) : h.claimResult owner site =
        if s.cfg.lending then .asking owner site 1 0 else .fill .lendingOff := by
      obtain ⟨nb, there, present⟩ := updatePresence_present takes.direction
      have lending : h.cfg.lending = s.cfg.lending := by rw [updatePresence_cfg]
      unfold State.claimResult
      rw [there, lending]
      cases s.cfg.lending <;> simp [present]
    refine ⟨h.loansChecked owner pairs, loansChecked_onlyRemedies h owner pairs, fun c site loan named => ?_,
      fun c site loan omitted home => ?_, fun c other => ?_, loansChecked_eq, ?_⟩
    · rw [loansChecked_passed, loan]
      rw [loan]
      exact decide_eq_false fun both => both.2 named
    · rw [loansChecked_called (omittedLoan_iff.mpr ⟨site, loan, omitted⟩) home, tests]
    · refine loansChecked_passed (Bool.eq_false_iff.mpr fun called => ?_)
      obtain ⟨site, loan, _⟩ := omittedLoan_iff.mp called
      exact other site loan
    · rw [taken, ← foldl_answerPair owner _ pairs _ fun _ => rfl]
      unfold takeLoanList
      rw [toDir_owner]
      rfl

/-! ## REFUSE and REVOKE (R122, R123) -/

section Answered

variable {s : State} {d : Dir} {site : Site} {c : Cell} {owner : OwnerDir}

/-- A REFUSE with a known code ends the claim that it matches (R122). -/
theorem takeRefuse_asking {n timer : Nat} (from_ : owner.toDir = d)
    (asking : s.remedyOf c = some (.asking owner site n timer)) (code : Fin 16) : takeRefuse d site c code s =
      match refusalReason code with
      | some why => s.writeRemedy c (.fill why)
      | none => s := by
  obtain ⟨e, retired, filled⟩ := filled_of_asking asking
  unfold takeRefuse
  rw [matchedRemedy_asking from_ asking]
  cases refusalReason code with
  | none => rfl
  | some why => exact giveRemedy_same retired filled fun _ => rfl

theorem takeRefuse_loan (from_ : owner.toDir = d) (loan : s.remedyOf c = some (.loan owner site)) (code : Fin 16) :
    takeRefuse d site c code s = s := by
  unfold takeRefuse
  rw [matchedRemedy_loan from_ loan]

theorem takeRefuse_unmatched (unmatched : ¬ Matches s d site c) (code : Fin 16) : takeRefuse d site c code s = s := by
  unfold takeRefuse
  rw [matchedRemedy_none unmatched]

theorem takeRevoke_asking {n timer : Nat} (from_ : owner.toDir = d)
    (asking : s.remedyOf c = some (.asking owner site n timer)) :
    takeRevoke d site c s = s.writeRemedy c (.fill .revoked) := by
  obtain ⟨e, retired, filled⟩ := filled_of_asking asking
  unfold takeRevoke
  rw [matchedRemedy_asking from_ asking]
  exact giveRemedy_same retired filled fun _ => rfl

theorem takeRevoke_loan (from_ : owner.toDir = d) (loan : s.remedyOf c = some (.loan owner site)) :
    takeRevoke d site c s = (s.writeRemedy c (.fill .revoked)).nowFilled c := by
  obtain ⟨e, retired, unfilled⟩ := unfilled_of_loan loan
  unfold takeRevoke
  rw [matchedRemedy_loan from_ loan]
  exact giveRemedy_nowFilled retired unfilled rfl

theorem takeRevoke_unmatched (unmatched : ¬ Matches s d site c) : takeRevoke d site c s = s := by
  unfold takeRevoke
  rw [matchedRemedy_none unmatched]

/-- A code that is none of the five gives no reason (R155). -/
theorem refusalReason_unknown {code : Fin 16} (unknown : code = 0 ∨ 5 < code) : refusalReason code = none := by
  revert unknown
  revert code
  decide

end Answered

/-- Settles O41: by the remedy of the entry that the answer matches, and for ASKING by the code. -/
theorem refuseAndRevokeTaken : Obligations.RefuseAndRevokeTaken := by
  intro s rx d site c code takes h
  have refused : exec (.refuseReceived rx site c code) s = .next (takeRefuse d site c code h) :=
    congrArg Host.Outcome.next (receiveFromNeighbour_takes takes _)
  have revoked : exec (.revokeReceived rx site c) s = .next (takeRevoke d site c h) :=
    congrArg Host.Outcome.next (receiveFromNeighbour_takes takes _)
  rw [refused, revoked]
  refine ⟨fun owner n timer from_ asking => ?_, fun owner from_ loan => ?_, fun unmatched => ?_⟩
  · rw [takeRefuse_asking from_ asking, takeRevoke_asking from_ asking]
    refine ⟨rfl, ?_, ?_, ?_, ?_, ?_, fun unknown => by rw [refusalReason_unknown unknown]⟩ <;> (rintro rfl; rfl)
  · rw [takeRefuse_loan from_ loan, takeRevoke_loan from_ loan]
    exact ⟨rfl, rfl⟩
  · rw [takeRefuse_unmatched unmatched, takeRevoke_unmatched unmatched]
    exact ⟨rfl, rfl⟩

end Sys2Proof.Machine
end

section
/-! A neighbour that goes SILENT: the sites, the loans and the claims that are withdrawn with it, and what they leave (R76, R87, R94, R133, R140, R141). -/

namespace Sys2Proof.Machine

/-! ## The sites of lost borrowers (R87, R94) -/

section Sites

variable {s : State} {announce : Bool} {lost : BorrowerDir → Bool} {a : Site}

theorem dependsOn_iff (st : SiteState) : st.dependsOn lost = true ↔
    ∃ b c, lost b = true ∧ (st = .lent b c ∨ ∃ n, st = .held b c n) := by
  constructor
  · intro depends
    cases st with
    | lent b c => exact ⟨b, c, depends, Or.inl rfl⟩
    | held b c n => exact ⟨b, c, depends, Or.inr ⟨n, rfl⟩⟩
    | absent | free | own | faulty => cases depends
  · rintro ⟨b, c, gone, rfl | ⟨n, rfl⟩⟩ <;> exact gone

theorem freeIfLost_called (h : (s.site a).state.dependsOn lost = true) :
    freeIfLost announce lost s a = freeSite announce a s := if_pos h

theorem freeIfLost_passed (h : (s.site a).state.dependsOn lost = false) : freeIfLost announce lost s a = s :=
  if_neg (by rw [h]; exact Bool.false_ne_true)

theorem site_freeIfLost_other {b : Site} (apart : b ≠ a) : (freeIfLost announce lost s b).site a = s.site a := by
  cases called : (s.site b).state.dependsOn lost with
  | true => rw [freeIfLost_called called, site_freeSite_other announce apart]
  | false => rw [freeIfLost_passed called]

/-- A site that depends on no lost neighbour stands. -/
theorem site_freeLost (h : (s.site a).state.dependsOn lost = false) : (freeLost announce lost s).site a = s.site a := by
  refine foldl_keeps (P := fun t => t.site a = s.site a) (fun t b ht => ?_) allSites s rfl
  by_cases same : b = a
  · subst same
    rw [freeIfLost_passed (by rw [ht, h])]
    exact ht
  · exact (site_freeIfLost_other same).trans ht

/-- No site depends on a lost neighbour any more. -/
theorem freeLost_freed (s : State) (announce : Bool) (lost : BorrowerDir → Bool) (a : Site) :
    ((freeLost announce lost s).site a).state.dependsOn lost = false := by
  have turn (t : State) : ((freeIfLost announce lost t a).site a).state.dependsOn lost = false := by
    cases called : (t.site a).state.dependsOn lost with
    | true =>
      rw [freeIfLost_called called, site_freeSite, if_pos rfl]
      cases t.waiter a <;> rfl
    | false => rwa [freeIfLost_passed called]
  refine foldl_establishes (I := fun _ => True) (f := freeIfLost announce lost)
    (Q := fun b t => b = a → (t.site a).state.dependsOn lost = false) (fun _ _ _ => trivial) (fun t b _ is => ?_)
    (fun t x b _ done is => ?_) allSites s trivial a (mem_allSites a) rfl
  · rw [is]
    exact turn t
  · by_cases same : b = a
    · rw [same]
      exact turn t
    · rw [site_freeIfLost_other same]
      exact done is

/-- A cell that does not wait for a site keeps its remedy when sites are freed. -/
theorem remedyOf_freeLost {c : Cell} (busy : s.remedyOf c ≠ some (.fill .quadBusy)) :
    (freeLost announce lost s).remedyOf c = s.remedyOf c := by
  refine foldl_keeps (P := fun t => t.remedyOf c = s.remedyOf c) (fun t b ht => ?_) allSites s rfl
  cases called : (t.site b).state.dependsOn lost with
  | true =>
    rw [freeIfLost_called called, remedyOf_freeSite, if_neg, ht]
    intro waits
    have waiting : t.remedyOf c = some (.fill .quadBusy) := by simpa using List.find?_some waits
    exact busy (ht.symm.trans waiting)
  | false =>
    rw [freeIfLost_passed called]
    exact ht

end Sites

/-! ## The loans and claims of lost owners (R133) -/

section Owners

variable {s : State} {announce : Bool} {lost : OwnerDir → Bool} {c : Cell}

theorem dropIfLost_called (h : (s.remedyOf c).any (Remedy.dependsOn lost) = true) :
    dropIfLost announce lost s c = giveRemedy announce c (.fill .ownerSilent) s := if_pos h

theorem dropIfLost_passed (h : (s.remedyOf c).any (Remedy.dependsOn lost) = false) :
    dropIfLost announce lost s c = s := if_neg (by rw [h]; exact Bool.false_ne_true)

theorem dropIfLost_other {d : Cell} (apart : c ≠ d) :
    (dropIfLost announce lost s c).remedyOf d = s.remedyOf d := by
  cases called : (s.remedyOf c).any (Remedy.dependsOn lost) with
  | true => rw [dropIfLost_called called, remedyOf_giveRemedy, if_neg fun both => apart both.1]
  | false => rw [dropIfLost_passed called]

/-- A cell without a LOAN or claim of a lost owner keeps its remedy. -/
theorem dropLost_passed (h : (s.remedyOf c).any (Remedy.dependsOn lost) = false) :
    (dropLost announce lost s).remedyOf c = s.remedyOf c :=
  foldl_stands (f := dropIfLost announce lost) (fun _ ht => dropIfLost_passed (by rw [ht, h]))
    (fun _ _ apart => dropIfLost_other apart) _ rfl

/-- A cell with a LOAN or claim of a lost owner is in FILL(OWNER_SILENT). -/
theorem dropLost_called (h : (s.remedyOf c).any (Remedy.dependsOn lost) = true) :
    (dropLost announce lost s).remedyOf c = some (.fill .ownerSilent) := by
  obtain ⟨r, had, _⟩ := (Option.any_eq_true _ _).mp h
  have turned := foldl_turns (f := dropIfLost announce lost) (c := c) (I := fun _ => True)
    (F := fun r => if r.any (Remedy.dependsOn lost) then some (.fill .ownerSilent) else r)
    (fun _ _ _ => trivial) (fun t _ => ?_) (fun _ _ apart => dropIfLost_other apart) (fun r => ?_)
    (mem_cells_of_remedyOf had) (s := s) trivial
  · exact turned.trans (if_pos h)
  · cases called : (t.remedyOf c).any (Remedy.dependsOn lost) with
    | true =>
      obtain ⟨r, had, _⟩ := (Option.any_eq_true _ _).mp called
      obtain ⟨e, retired, _⟩ := retiredEntry_of_remedyOf had
      rw [dropIfLost_called called, remedyOf_giveRemedy, if_pos ⟨rfl, Option.isSome_of_eq_some retired⟩]
      rfl
    | false =>
      rw [dropIfLost_passed called]
      rfl
  · cases called : r.any (Remedy.dependsOn lost) <;> simp [called, Remedy.dependsOn]

/-- Remedies that change owners change no site. -/
theorem site_dropLost (a : Site) : (dropLost announce lost s).site a = s.site a := by
  refine foldl_keeps (P := fun t => t.site a = s.site a) (fun t c ht => ?_) _ s rfl
  cases called : (t.remedyOf c).any (Remedy.dependsOn lost) with
  | true => rw [dropIfLost_called called, site_giveRemedy, ht]
  | false => rw [dropIfLost_passed called, ht]

end Owners

/-! ## Silence (R140, R141) -/

section Silence

variable {s : State} {d : Dir} {nb : Neighbour}

/-- The state with a neighbour SILENT, its quiet time at the limit, and its fill records gone (R140, R141). -/
def State.silenced (s : State) (d : Dir) (nb : Neighbour) : State :=
  dropFills d (s.setNeighbour d (some ⟨nb.position, .silent, some s.cfg.silenceTicks⟩))

theorem silenceNeighbour_present (there : s.neighbour d = some nb) (present : nb.presence = .present) :
    silenceNeighbour d s = dropLost true (fun owner => decide (owner.toDir = d))
      (freeLost true (fun b => decide (b.toDir = d)) (s.silenced d nb)) := by
  unfold silenceNeighbour
  rw [there]
  exact if_pos present

theorem silenceNeighbour_other (other : ∀ nb, s.neighbour d = some nb → nb.presence ≠ .present) :
    silenceNeighbour d s = s := by
  unfold silenceNeighbour
  cases there : s.neighbour d with
  | none => rfl
  | some nb => exact if_neg (other nb there)

/-- What is withdrawn, in the words of the statement: the sites in ascending index, then the entries in ascending position. -/
theorem withdrawn_eq (s : State) (lostB : BorrowerDir → Bool) (lostO : OwnerDir → Bool) :
    dropLost true lostO (freeLost true lostB s) = (s.entries.map Entry.cell).foldl
      (fun t c => t.ownerLost true lostO c)
      ((s.sitesThat fun _ state => state.givenTo lostB).foldl State.offered s) := by
  have cells : (freeLost true lostB s).entries.map Entry.cell = s.entries.map Entry.cell :=
    (cells_kept _).freeLost true lostB s rfl
  unfold dropLost
  rw [cells, freeLost_offered]
  rw [show dropIfLost true lostO = fun t c => t.ownerLost true lostO c from
    funext fun t => funext fun c => dropIfLost_ownerLost true lostO t c]

end Silence

/-- The frame of the operations on remedies from a state that differs in the seam. -/
theorem OnlyRemedies.withSeam {s t : State} {x : Seam} (h : OnlyRemedies { s with seam := x } t) : t = { s with
    entries := t.entries, sites := t.sites, seam := t.seam, ports := t.ports, flags := t.flags } := by
  have seam : t.seam = { x with filledEdges := t.seam.filledEdges } := congrArg State.seam h
  rw [seam]
  exact h

/-- Settles O32: the frame of the operations on remedies, the sites freed, then the owners lost. -/
theorem neighbourGoesSilent : Obligations.NeighbourGoesSilent := by
  intro d s
  refine ⟨fun other => congrArg Host.Outcome.next (silenceNeighbour_other other), fun nb there present => ?_⟩
  rw [← Configuration.silenceTicks]
  have k := onlyRemedies_kept (s.silenced d nb)
  have freed := k.freeLost true (fun b => decide (b.toDir = d)) _ (.refl (s.silenced d nb))
  have only := k.dropLost true (fun owner => decide (owner.toDir = d)) _ freed
  have neighbour (d' : Dir) := (only.neighbour d').trans (neighbour_setNeighbour s d d' _)
  have records : (s.silenced d nb).seam.foreignFills =
      s.seam.foreignFills.filter fun r => decide (r.edge.toDir ≠ d) := by
    simp only [decide_not]
    rfl
  refine ⟨_, congrArg Host.Outcome.next (silenceNeighbour_present there present), ?_, only.withSeam, ?_,
    fun d' apart => ?_, only.refreshTimer, only.foreignFills.trans records, fun site b c n is => ?_,
    fun site other => ?_, fun c owner is depends => ?_, fun c busy other => ?_⟩
  · rw [withdrawn_eq, ← records]
    rfl
  · rw [neighbour, if_pos rfl]
  · rw [neighbour, if_neg (Ne.symm apart)]
  · rw [site_dropLost]
    have gone := freeLost_freed (s.silenced d nb) true (fun b => decide (b.toDir = d)) site
    constructor
    all_goals
      intro state
      rw [state] at gone
      exact absurd is (of_decide_eq_false gone)
  · rw [site_dropLost, site_freeLost]
    · rfl
    · rw [← Bool.not_eq_true, dependsOn_iff]
      rintro ⟨b, c, is, lent | ⟨n, held⟩⟩
      · exact (other b c 0 (of_decide_eq_true is)).1 lent
      · exact (other b c n (of_decide_eq_true is)).2 held
  · have called : ((s.silenced d nb).remedyOf c).any (Remedy.dependsOn fun owner => decide (owner.toDir = d)) = true ∧
        (s.silenced d nb).remedyOf c ≠ some (.fill .quadBusy) := by
      change (s.remedyOf c).any _ = true ∧ s.remedyOf c ≠ _
      obtain ⟨site, loan⟩ | ⟨site, n, timer, asking⟩ := depends
      · rw [loan]
        exact ⟨decide_eq_true is, nofun⟩
      · rw [asking]
        exact ⟨decide_eq_true is, nofun⟩
    refine dropLost_called ?_
    rw [remedyOf_freeLost called.2]
    exact called.1
  · have kept : (freeLost true (fun b => decide (b.toDir = d)) (s.silenced d nb)).remedyOf c = s.remedyOf c :=
      remedyOf_freeLost busy
    refine (dropLost_passed ?_).trans kept
    rw [kept]
    cases had : s.remedyOf c with
    | none => rfl
    | some r =>
      cases r with
      | loan owner site => exact decide_eq_false fun is => (other owner site 0 0 is).1 had
      | asking owner site n timer => exact decide_eq_false fun is => (other owner site n timer is).2 had
      | ownSpare _ | fill _ => rfl

end Sys2Proof.Machine
end

section
/-! The four queries: the bits and the fields of their reports, and the requests answered (R77, R154, R155, R182 to R186). -/

namespace Sys2Proof.Machine

/-! ## Bits packed into bytes and read back (R155, R186) -/

section Packing

theorem bitsOfNat_append (w v : Nat) : bitsOfNat (w + 1) v = bitsOfNat w (v / 2) ++ [v.testBit 0] := by
  induction w with
  | zero => rfl
  | succ w ih =>
    rw [bitsOfNat, ih, Nat.testBit_succ]
    rfl

theorem natOfBits_append (bits : List Bool) (b : Bool) : natOfBits (bits ++ [b]) = 2 * natOfBits bits + b.toNat := by
  rw [natOfBits, List.foldl_append]
  rfl

theorem bitsOfNat_natOfBits (bits : List Bool) : bitsOfNat bits.length (natOfBits bits) = bits := by
  induction bits using List.reverseRecOn with
  | nil => rfl
  | append_singleton bits b ih =>
    have half : (2 * natOfBits bits + b.toNat) / 2 = natOfBits bits := by have := b.toNat_le; omega
    have last : (2 * natOfBits bits + b.toNat).testBit 0 = b := by
      cases b <;> simp [Nat.testBit_zero]
    rw [List.length_append, List.length_singleton, bitsOfNat_append, natOfBits_append, half, last, ih]

/-- A field's bits are those of its value in so many bits. -/
theorem bitsOfNat_mod (w v k : Nat) (h : w ≤ k) : bitsOfNat w (v % 2 ^ k) = bitsOfNat w v := by
  induction w with
  | zero => rfl
  | succ w ih =>
    rw [bitsOfNat, bitsOfNat, ih (by omega), Nat.testBit_mod_two_pow, decide_eq_true (by omega), Bool.true_and]

theorem length_closeBits (bits : List Bool) : (closeBits bits).length = 8 * byteCount bits.length := by
  rw [closeBits, List.length_append, List.length_replicate, byteCount]
  omega

/-- Each byte of a bit string spells its eight bits, closed with 0 bits. -/
theorem bitsOfByte_byteAt {bits : List Bool} {n : Nat} (h : n < byteCount bits.length) :
    bitsOfByte (byteAt bits n) = ((closeBits bits).drop (8 * n)).take 8 := by
  have eight : (((closeBits bits).drop (8 * n)).take 8).length = 8 := by
    rw [List.length_take, List.length_drop, length_closeBits]
    omega
  rw [bitsOfByte, byteAt, BitVec.toNat_ofNat, bitsOfNat_mod 8 _ 8 le_rfl]
  calc _ = bitsOfNat (((closeBits bits).drop (8 * n)).take 8).length _ := by rw [eight]
    _ = _ := bitsOfNat_natOfBits _

theorem flatMap_chunks (l : List Bool) (n : Nat) :
    ((List.range n).flatMap fun k => (l.drop (8 * k)).take 8) = l.take (8 * n) := by
  induction n with
  | zero => rfl
  | succ n ih =>
    rw [List.range_succ, List.flatMap_append, ih, List.flatMap_singleton, Nat.mul_succ, List.take_add]

/-- Bits packed into bytes are read back, closed with 0 bits. -/
theorem bitsOfBytes_bytesOfBits (bits : List Bool) : bitsOfBytes (bytesOfBits bits) = closeBits bits := by
  rw [bitsOfBytes, bytesOfBits, List.flatMap_map,
    List.flatMap_congr fun n h => bitsOfByte_byteAt (List.mem_range.mp h), flatMap_chunks,
    List.take_of_length_le (length_closeBits bits).le]

theorem closeBits_eq (bits : List Bool) :
    closeBits bits = bits ++ List.replicate ((8 - bits.length % 8) % 8) false := by
  rw [closeBits, byteCount]
  congr 2
  omega

end Packing

/-! ## The fields of the reports (R186) -/

section Fields

variable {s : State} {c : Cell}

theorem responseField_eq (v : Int) : responseField v = ⟨13, (BitVec.ofInt 13 v).toNat⟩ := by
  rw [BitVec.toNat_ofInt]
  rfl

theorem entryOf_split {older newer : List Entry} {e : Entry} (split : s.entries = older ++ e :: newer)
    (before : ∀ x ∈ older, x.cell ≠ c) (is : e.cell = c) : s.entryOf c = some e := by
  rw [State.entryOf, split, List.find?_append, List.find?_eq_none.mpr fun x hx => by simpa using before x hx]
  simp [is]

theorem entryPosition_split {older newer : List Entry} {e : Entry} (split : s.entries = older ++ e :: newer)
    (before : ∀ x ∈ older, x.cell ≠ c) (is : e.cell = c) : s.entryPosition c = older.length := by
  have none_before : ¬ older.findIdx (fun x => x.cell == c) < older.length := by
    rw [List.findIdx_lt_length]
    rintro ⟨x, hx, found⟩
    exact before x hx (eq_of_beq found)
  rw [State.entryPosition, split, List.findIdx_append, if_neg none_before, List.findIdx_cons, is, beq_self_eq_true]
  exact Nat.zero_add _

theorem cellReport_none (h : s.entryOf c = none) :
    cellReport c s = ⟨1, cellField c :: recordFields (s.cell c) ++ [⟨1, 0⟩]⟩ := by
  rw [cellReport, h]

theorem cellReport_some {e : Entry} (h : s.entryOf c = some e) : cellReport c s =
    ⟨1, cellField c :: recordFields (s.cell c) ++ ⟨1, 1⟩ :: ⟨7, s.entryPosition c⟩ :: entryFields e⟩ := by
  rw [cellReport, h]

theorem entryReport_none {n : Byte} (h : s.entries[n.toNat]? = none) :
    entryReport n s = ⟨3, [⟨8, n.toNat⟩, ⟨1, 0⟩]⟩ := by
  rw [entryReport, h]

theorem entryReport_some {n : Byte} {e : Entry} (h : s.entries[n.toNat]? = some e) :
    entryReport n s = ⟨3, ⟨8, n.toNat⟩ :: ⟨1, 1⟩ :: cellField e.cell :: entryFields e⟩ := by
  rw [entryReport, h]

theorem remediesWith_eq {p q : Remedy → Bool} (same : ∀ r, p r = q r) :
    s.remediesWith p = s.entries.countP fun e => e.remedy.any q := by
  rw [funext same]
  rfl

theorem isFillWith_one (why : FillReason) (r : Remedy) : r.isFillWith [why] = decide (r = .fill why) := by
  cases r <;> simp [Remedy.isFillWith]

theorem cellsIn_eq (k : Condition) :
    s.cellsIn k = (List.finRange 1024).countP fun n => decide ((s.cells.get n).condition = k) :=
  Tbl.countP_data _ _

theorem sitesIn_eq (code : Nat) :
    s.sitesIn code = (List.finRange 256).countP fun n => decide ((s.sites.get n).state.code = code) :=
  Tbl.countP_data _ _

end Fields

/-! ## Queries handled and answered (R182, R184, R185) -/

section Queries

variable {s : State} {rx : Rx} {tag code : Byte} {arguments : List Byte} {command : ServiceCommand}

/-- A query is carried out whatever the port's last tag. -/
theorem handleRequest_query {p : PortId} (query : isActing code = false)
    (read : readCommand code arguments = some command) :
    handleRequest p tag code arguments s = carryOut command (s.setLastTag p tag) := by
  unfold handleRequest
  rw [State.isRepeat, query, read]
  rfl

theorem replied_replied (s : State) (rx : Rx) (tag : Byte) (r r' : List Report) :
    (s.replied rx tag r).replied rx tag r' = s.replied rx tag (r ++ r') := by
  unfold State.replied
  rw [List.map_append, ← List.append_assoc]
  cases rx.port <;> rfl

/-- Two answers that find places stand in their order behind those that wait. -/
theorem answer_two (tag : Byte) (r r' : Report) (room : (s.port rx.port).answers.length ≤ 2) :
    [r, r'].foldl (answer rx tag) s = s.replied rx tag [r, r'] := by
  have one_more : ((s.replied rx tag [r]).port rx.port).answers.length ≤ 3 := by
    rw [State.replied, port_setPort_same, List.length_append]
    exact Nat.succ_le_succ room
  rw [List.foldl_cons, List.foldl_cons, List.foldl_nil, answer_replied tag r (by omega), answer_replied tag r' one_more,
    replied_replied]
  rfl

/-- A query that is answered with one report. -/
theorem receiveRequest_query (station : FromStation s rx) (short : arguments.length ≤ 38)
    (query : isActing code = false) (read : readCommand code arguments = some command)
    (one : placesNeeded (some command) = 1) {r : Report}
    (reported : carryOut command ((updatePresence rx.src s).setLastTag rx.port tag) =
      ((updatePresence rx.src s).setLastTag rx.port tag, [r]))
    (room : ((updatePresence rx.src s).port rx.port).answers.length ≤ 3) :
    receiveRequest rx tag code arguments s =
      ((updatePresence rx.src s).setLastTag rx.port tag).replied rx tag [r] :=
  receiveRequest_answered station short (by rw [read, one]) ((handleRequest_query query read).trans reported) rfl room

/-- QUERY_SUMMARY is answered with its two reports, in order. -/
theorem receiveRequest_summary (station : FromStation s rx)
    (room : ((updatePresence rx.src s).port rx.port).answers.length ≤ 2) :
    receiveRequest rx tag 0 [] s = ((updatePresence rx.src s).setLastTag rx.port tag).replied rx tag
      [summaryTables (updatePresence rx.src s), summaryState (updatePresence rx.src s)] := by
  have here : rx.dst = (updatePresence rx.src s).position := by rw [updatePresence_position, station.addressed]
  have handled : handleRequest rx.port tag 0 [] (updatePresence rx.src s) =
      carryOut .querySummary ((updatePresence rx.src s).setLastTag rx.port tag) := handleRequest_query rfl rfl
  rw [receiveRequest_fromStation station _ _ _ (by simp),
    serviceRequest_room station.station here _ _ _ (by show 2 + _ ≤ 4; omega), handled, carryOut]
  exact answer_two tag _ _ room

end Queries

/-- Settles O47: the packing, the codes, the fields of each report, and the four queries answered. -/
theorem queriesAnswered : Obligations.QueriesAnswered := by
  refine ⟨fun _ _ => rfl, fun bits => (bitsOfBytes_bytesOfBits bits).trans (closeBits_eq bits), rfl,
    ⟨rfl, rfl, rfl, rfl, rfl, rfl, fun _ _ _ => rfl, fun _ _ => rfl, rfl, rfl⟩, ?_, ?_⟩
  · intro s cell site response record entry
    have records (r : CellRecord) : recordFields r = record r := by
      unfold recordFields
      rw [responseField_eq, responseField_eq, responseField_eq]
    have entries (e : Entry) : entryFields e = entry e := by
      obtain ⟨c, origin, body⟩ := e
      cases body with
      | dim => rfl
      | retired remedy =>
        cases remedy with
        | none => rfl
        | some r => cases r <;> rfl
    refine ⟨fun c none => ?_, fun c older e newer split before is => ?_, fun t => ?_, fun n => ?_, ?_, ?_⟩
    · rw [cellReport_none none, records]
      rfl
    · rw [cellReport_some (entryOf_split split before is), records, entryPosition_split split before is, entries]
      rfl
    · refine congrArg (Report.mk 2) (congrArg₂ _ rfl ?_)
      cases (s.site t).state <;> rfl
    · cases at_ : s.entries[n.toNat]? with
      | none => exact entryReport_none at_
      | some e =>
        rw [entryReport_some at_, entries]
        rfl
    · intro cells kind sites
      have kinds (k : Nat) {test : Remedy → Bool} (same : ∀ r : Remedy, (r.kindCode == k) = test r) :
          ReportField.mk 8 (s.remediesWith fun r => r.kindCode == k) = kind test :=
        congrArg _ (remediesWith_eq same)
      have reasons (why : FillReason) : ReportField.mk 8 (s.remediesWith (Remedy.isFillWith [why])) =
          kind fun r => decide (r = .fill why) := congrArg _ (remediesWith_eq (isFillWith_one why))
      refine congrArg (Report.mk 4) (congrArg₂ _ (congrArg₂ _ (congrArg₂ _ (congrArg (· ++ _) ?_) ?_) ?_) ?_)
      · exact List.map_congr_left fun k _ => congrArg _ (cellsIn_eq k)
      · refine congrArg₂ _ (kinds 0 ?_) (congrArg₂ _ (kinds 1 ?_) (congrArg₂ _ (kinds 2 ?_)
          (congrArg₂ _ (kinds 3 ?_) rfl)))
        all_goals
          intro r
          cases r <;> rfl
      · exact List.map_congr_left fun why _ => reasons why
      · exact List.map_congr_left fun k _ => congrArg _ (sitesIn_eq k)
    · intro bit direction
      have directions : presenceFields s = direction := by
        funext d
        unfold presenceFields direction
        cases s.neighbour d <;> rfl
      have leak : s.anyRowLeak = (List.finRange 144).any fun i => s.probe.leak.get i := Tbl.any_data _ _
      unfold summaryState
      rw [directions, leak]
      rfl
  · intro s rx tag station h g
    refine ⟨fun room => congrArg Host.Outcome.next (receiveRequest_summary station room), fun room => ?_⟩
    have answered {code : Byte} {arguments : List Byte} {command : ServiceCommand} {r : Report}
        (short : arguments.length ≤ 38) (query : isActing code = false)
        (read : readCommand code arguments = some command) (one : placesNeeded (some command) = 1)
        (reported : carryOut command g = (g, [r])) :
        (.next (receiveRequest rx tag code arguments s) : Host.Outcome State Fault Refusal) =
          .next (g.replied rx tag [r]) :=
      congrArg _ (receiveRequest_query station short query read one reported room)
    refine ⟨fun c x y hx hy => answered (by simp) rfl rfl rfl ?_, fun x y out => answered (by simp) rfl rfl rfl ?_,
      fun site i j hi hj => answered (by simp) rfl rfl rfl ?_, fun i j out => answered (by simp) rfl rfl rfl ?_,
      fun n => answered (by simp) rfl rfl rfl rfl⟩
    · rw [carryOut, ofBytes_cell c hx hy]
      rfl
    · rw [carryOut, ofBytes_no_cell out]
    · rw [carryOut, ofBytes_site site hi hj]
      rfl
    · rw [carryOut, ofBytes_no_site out]

end Sys2Proof.Machine
end

section
/-! The sites that a tile lends: their verdicts, the answer to a CLAIM, the loans and holds that end with a RELEASE, an expiry or a HOLD_LIST, and the lists of a refresh (R82, R83, R87 to R93, R143). -/

namespace Sys2Proof.Machine

/-! ## A site verdict (R82, R83) -/

section Verdicts

variable {s : State} {v : SiteVerdict}

theorem recordsOnly_iff (st : SiteState) : st.recordsOnly = true ↔ st = .absent ∨ st = .faulty := by
  cases st <;> simp [SiteState.recordsOnly]

/-- A verdict on an ABSENT or FAULTY site is recorded (R82). -/
theorem takeSiteVerdict_recorded (only : (s.site v.site).state = .absent ∨ (s.site v.site).state = .faulty) :
    takeSiteVerdict v s = s.setSite v.site { s.site v.site with lastVerdict := v.verdict.toLast } :=
  if_pos ((recordsOnly_iff _).mpr only)

/-- The verdict NONE is recorded, whatever the site (R82). -/
theorem takeSiteVerdict_none (none : v.verdict = .none) :
    takeSiteVerdict v s = s.setSite v.site { s.site v.site with lastVerdict := .none } := by
  unfold takeSiteVerdict
  rw [none]
  exact ite_self _

section Usable

variable (present : (s.site v.site).state ≠ .absent) (sound : (s.site v.site).state ≠ .faulty)
include present sound

/-- The verdict on a usable site is acted on. -/
theorem recordsOnly_usable : ¬ (s.site v.site).state.recordsOnly = true := fun only =>
  ((recordsOnly_iff _).mp only).elim present sound

/-- HEALTHY and WEAK prove a usable site (R82). -/
theorem takeSiteVerdict_proves (good : v.verdict = .healthy ∨ v.verdict = .weak) : takeSiteVerdict v s =
    s.setSite v.site { s.site v.site with lastVerdict := v.verdict.toLast, proven := true, faultRun := 0 } := by
  refine (if_neg (recordsOnly_usable present sound)).trans ?_
  obtain healthy | weak := good
  · rw [healthy]
  · rw [weak]

/-- A FAULT below K disproves a usable site (R82). -/
theorem takeSiteVerdict_below (fault : v.verdict = .fault) (below : (s.site v.site).faultRun + 1 < s.cfg.k) :
    takeSiteVerdict v s = s.setSite v.site
      { s.site v.site with lastVerdict := .fault, proven := false, faultRun := (s.site v.site).faultRun + 1 } := by
  refine (if_neg (recordsOnly_usable present sound)).trans ?_
  rw [fault]
  dsimp only
  rw [if_neg (by omega), Nat.min_eq_right (by omega)]
  rfl

/-- The K-th FAULT makes a usable site FAULTY, with what follows for the cell it served (R83). -/
theorem takeSiteVerdict_fails (fault : v.verdict = .fault) (reached : s.cfg.k ≤ (s.site v.site).faultRun + 1) :
    takeSiteVerdict v s = faultConsequence v.site (s.site v.site).state
      (s.setSite v.site ⟨.faulty, false, s.cfg.k, .fault⟩) := by
  refine (if_neg (recordsOnly_usable present sound)).trans ?_
  rw [fault]
  dsimp only
  rw [if_pos reached, Nat.min_eq_left reached]
  rfl

end Usable

/-- The own cell that loses its spare is filled (R83). -/
theorem faultConsequence_own {c : Cell} {site : Site} (spare : s.remedyOf c = some (.ownSpare site)) :
    faultConsequence site (.own c) s = (s.writeRemedy c (.fill .siteFaulty)).nowFilled c := by
  obtain ⟨e, retired, had⟩ := retiredEntry_of_remedyOf spare
  exact giveRemedy_nowFilled retired (by simp [Entry.isFilled, had, Remedy.isFilled]) rfl

/-- With no site verdict handed on nothing changes (log entry 8). -/
theorem siteVerdict_none (none : s.handed.siteVerdicts = []) : exec .siteVerdict s = .next s := by
  show execSiteVerdict s = _
  unfold execSiteVerdict
  rw [none]

/-- The oldest site verdict handed on is taken. -/
theorem siteVerdict_oldest {rest : List SiteVerdict} (handed : s.handed.siteVerdicts = v :: rest) :
    exec .siteVerdict s = .next (takeSiteVerdict v { s with handed := { s.handed with siteVerdicts := rest } }) := by
  show execSiteVerdict s = _
  unfold execSiteVerdict
  rw [handed]

end Verdicts

/-- Settles O28: by the site's state, the verdict, and the fault run against K. -/
theorem siteVerdictTaken : Obligations.SiteVerdictTaken := by
  intro s
  refine ⟨siteVerdict_none, fun v rest handed => ?_⟩
  intro u r answers failed
  have taken {t : State} (comes : takeSiteVerdict v u = t) : answers t :=
    (siteVerdict_oldest handed).trans (congrArg Host.Outcome.next comes)
  refine ⟨fun only => ?_, fun none => taken (takeSiteVerdict_none none), fun present sound => ?_,
    fun fault reached => ?_⟩
  · have recorded := takeSiteVerdict_recorded (s := u) only
    refine ⟨?_, ?_, ?_⟩ <;>
    · intro is
      rw [is] at recorded
      exact taken recorded
  · refine ⟨fun healthy => ?_, fun weak => ?_,
      fun fault below => taken (takeSiteVerdict_below present sound fault below)⟩
    · have proves := takeSiteVerdict_proves (s := u) present sound (Or.inl healthy)
      rw [healthy] at proves
      exact taken proves
    · have proves := takeSiteVerdict_proves (s := u) present sound (Or.inr weak)
      rw [weak] at proves
      exact taken proves
  · have fails {st : SiteState} (state : r.state = st) (present : st ≠ .absent) (sound : st ≠ .faulty) :
        takeSiteVerdict v u = faultConsequence v.site st failed := by
      rw [← state] at present sound ⊢
      exact takeSiteVerdict_fails (s := u) present sound fault reached
    refine ⟨?_, fun c own spare => ?_, fun d c lent => taken (fails lent nofun nofun)⟩
    · rintro (free | ⟨d, c, n, held⟩)
      · exact taken (fails free nofun nofun)
      · exact taken (fails held nofun nofun)
    · exact taken ((fails own nofun nofun).trans (faultConsequence_own (s := failed) spare))

/-! ## Loans and holds that end (R87, R90, R92, R93) -/

section Ends

variable {s : State} {site : Site} {d : Dir}

theorem endHold_held {b : BorrowerDir} {c : Cell} {n : Nat} (held : (s.site site).state = .held b c n) :
    endHold site s = s.offered site := by
  unfold endHold
  rw [held]
  exact freeSite_offered site

theorem endHold_other (other : ∀ b c n, (s.site site).state ≠ .held b c n) : endHold site s = s := by
  unfold endHold
  cases state : (s.site site).state with
  | held b c n => exact absurd state (other b c n)
  | absent | free | own | lent | faulty => rfl

theorem takeRelease_lent {c : Cell} {b : BorrowerDir} (from_ : b.toDir = d)
    (lent : (s.site site).state = .lent b c) : takeRelease d site c s = s.offered site := by
  subst from_
  unfold takeRelease
  rw [toDir_borrower]
  exact (if_pos lent).trans (freeSite_offered site)

theorem takeRelease_other {c : Cell} (other : ∀ b : BorrowerDir, b.toDir = d → (s.site site).state ≠ .lent b c) :
    takeRelease d site c s = s := by
  unfold takeRelease
  cases is : d.borrower with
  | none => rfl
  | some b => exact if_neg (other b (toDir_of_borrower is))

end Ends

/-- Settles O42: whether the site is LENT to the sender for the cell. -/
theorem releaseTaken : Obligations.ReleaseTaken := by
  intro s rx d site c takes h
  have taken : exec (.releaseReceived rx site c) s = .next (takeRelease d site c h) :=
    congrArg Host.Outcome.next (receiveFromNeighbour_takes takes _)
  rw [taken]
  exact ⟨fun b from_ lent => congrArg _ (takeRelease_lent from_ lent),
    fun other => congrArg _ (takeRelease_other other)⟩

section Offers

variable {s : State}

theorem site_offered_other {a b : Site} (apart : b ≠ a) : (s.offered b).site a = s.site a := by
  rw [← freeSite_offered, site_freeSite_other true apart]

/-- A site that is offered is FREE, or OWN for the cell that takes it (R87). -/
theorem offered_givenUp (s : State) (a : Site) :
    ((s.offered a).site a).state = .free ∨ ∃ c, ((s.offered a).site a).state = .own c := by
  rw [← freeSite_offered, site_freeSite, if_pos rfl]
  cases s.waiter a with
  | none => exact Or.inl rfl
  | some c => exact Or.inr ⟨c, rfl⟩

theorem site_foldl_offered {a : Site} {l : List Site} (out : a ∉ l) : (l.foldl State.offered s).site a = s.site a := by
  induction l generalizing s with
  | nil => rfl
  | cons b l ih =>
    obtain ⟨apart, rest⟩ := List.ne_and_not_mem_of_not_mem_cons out
    rw [List.foldl_cons, ih rest, site_offered_other (Ne.symm apart)]

theorem foldl_offered_givenUp {a : Site} {l : List Site} (listed : a ∈ l) :
    ((l.foldl State.offered s).site a).state = .free ∨ ∃ c, ((l.foldl State.offered s).site a).state = .own c := by
  refine foldl_establishes (I := fun _ => True)
    (Q := fun a t => (t.site a).state = .free ∨ ∃ c, (t.site a).state = .own c)
    (fun _ _ _ => trivial) (fun t a _ => offered_givenUp t a) (fun t a b _ givenUp => ?_) l s trivial a listed
  by_cases same : b = a
  · rw [same]
    exact offered_givenUp t a
  · rwa [site_offered_other same]

theorem foldl_offered_onlyRemedies (l : List Site) : OnlyRemedies s (l.foldl State.offered s) :=
  foldl_keeps (P := OnlyRemedies s) (fun t a h => by
    rw [← freeSite_offered]
    exact (onlyRemedies_kept s).freeSite true a t h) l s (.refl s)

theorem mem_sitesThat {picks : Site → SiteState → Bool} {a : Site} :
    a ∈ s.sitesThat picks ↔ picks a (s.site a).state = true :=
  List.mem_filter.trans (and_iff_right (mem_allSites a))

end Offers

section HoldList

variable {s : State} {d : Dir} {pairs : List LoanPair}

/-- Whether a site is LENT to the sender of a HOLD_LIST that does not name it (R93). -/
def leftOut (d : Dir) (pairs : List LoanPair) (site : Site) : SiteState → Bool
  | .lent b c => decide (b.toDir = d ∧ (⟨site, c⟩ : LoanPair) ∉ pairs)
  | _ => false

theorem leftOut_iff {site : Site} {st : SiteState} : leftOut d pairs site st = true ↔
    ∃ b c, st = .lent b c ∧ b.toDir = d ∧ (⟨site, c⟩ : LoanPair) ∉ pairs := by
  cases st <;> simp [leftOut]

theorem toDir_inj {b b' : BorrowerDir} : b.toDir = b'.toDir ↔ b = b' := by
  cases b <;> cases b' <;> decide

/-- A HOLD_LIST offers the sites it leaves out, in ascending site index; from a direction that borrows nothing there are none (R93). -/
theorem takeHoldList_offered : takeHoldList d pairs s = (s.sitesThat (leftOut d pairs)).foldl State.offered s := by
  unfold takeHoldList
  cases is : d.borrower with
  | none =>
    have none_left (a : Site) : a ∉ s.sitesThat (leftOut d pairs) := fun listed => by
      obtain ⟨b, c, _, rfl, _⟩ := leftOut_iff.mp (mem_sitesThat.mp listed)
      rw [toDir_borrower] at is
      cases is
    rw [List.eq_nil_iff_forall_not_mem.mpr none_left]
    rfl
  | some b =>
    refine (foldl_checkHold b pairs).trans
      (congrArg (fun picks => (s.sitesThat picks).foldl State.offered s) (funext fun site => funext fun st => ?_))
    cases st with
    | lent b' c =>
      rw [← toDir_of_borrower is]
      simp only [leftOut, toDir_inj]
    | absent | free | held | own | faulty => rfl

end HoldList

/-- Settles O31: an expiry by the site's state, a HOLD_LIST by the sites it leaves out. -/
theorem holdsEnd : Obligations.HoldsEnd := by
  refine ⟨fun site s => ⟨fun d c n held => congrArg _ (endHold_held held),
    fun other => congrArg _ (endHold_other other)⟩, ?_⟩
  intro s rx d pairs takes short h
  have taken : exec (.holdListReceived rx pairs) s =
      .next ((h.sitesThat (leftOut d pairs)).foldl State.offered h) := by
    rw [← takeHoldList_offered]
    exact congrArg Host.Outcome.next ((if_pos (decide_eq_true short)).trans (receiveFromNeighbour_takes takes _))
  have stands {site : Site} (kept : ∀ b c, (h.site site).state = .lent b c → b.toDir = d →
      (⟨site, c⟩ : LoanPair) ∈ pairs) :
      ((h.sitesThat (leftOut d pairs)).foldl State.offered h).site site = h.site site := by
    refine site_foldl_offered fun listed => ?_
    obtain ⟨b, c, lent, is, omitted⟩ := leftOut_iff.mp (mem_sitesThat.mp listed)
    exact omitted (kept b c lent is)
  refine ⟨_, taken, foldl_offered_onlyRemedies _, ?_, fun site b c lent is omitted => ?_,
    fun site b c lent is named => stands fun b' c' lent' _ => ?_,
    fun site other => stands fun b c lent is => absurd is (other b c lent)⟩
  · refine congrArg (fun picks => (h.sitesThat picks).foldl State.offered h)
      (funext fun site => funext fun st => ?_)
    cases st <;> rfl
  · exact foldl_offered_givenUp (mem_sitesThat.mpr (leftOut_iff.mpr ⟨b, c, lent, is, omitted⟩))
  · rw [lent] at lent'
    cases lent'
    exact named

/-! ## The owner's answer to a CLAIM (R88, R89) -/

section Answer

variable {s : State} {d : Dir} {c : Cell} {site : Site}

/-- A neighbour's cell lies in a quad of this tile only as seen from W, N or NW (R7, R12). -/
theorem borrower_of_inQuadFrom (within : c.inQuadFrom d site = true) : ∃ b, d.borrower = some b := by
  have inside := of_decide_eq_true within
  cases d with
  | n | w | nw => exact ⟨_, rfl⟩
  | e | s | se =>
    simp only [Cell.seenFrom, Dir.offset] at inside
    omega

theorem takeClaim_outside (outside : c.inQuadFrom d site = false) :
    takeClaim d c site s = sendTo d (.refuse site c 4) s := by
  unfold takeClaim
  rw [outside]
  rfl

theorem takeClaim_notLending (within : c.inQuadFrom d site = true) (off : s.cfg.lending = false) :
    takeClaim d c site s = sendTo d (.refuse site c 5) s := by
  unfold takeClaim
  rw [within, off]
  rfl

theorem takeClaim_lending {b : BorrowerDir} (within : c.inQuadFrom b.toDir site = true) (on : s.cfg.lending = true) :
    takeClaim b.toDir c site s = answerFromSite b c site s := by
  unfold takeClaim
  rw [within, on, toDir_borrower]
  rfl

variable {b : BorrowerDir}

theorem answerFromSite_absent (absent : (s.site site).state = .absent) :
    answerFromSite b c site s = sendTo b.toDir (.refuse site c 3) s := by
  unfold answerFromSite
  dsimp only
  rw [absent]
  rfl

theorem answerFromSite_faulty (faulty : (s.site site).state = .faulty) :
    answerFromSite b c site s = sendTo b.toDir (.refuse site c 2) s := by
  unfold answerFromSite
  dsimp only
  rw [faulty]
  rfl

theorem answerFromSite_own {c' : Cell} (own : (s.site site).state = .own c') :
    answerFromSite b c site s = sendTo b.toDir (.refuse site c 1) s := by
  unfold answerFromSite
  dsimp only
  rw [own]
  rfl

theorem answerFromSite_free (free : (s.site site).state = .free) :
    answerFromSite b c site s = if (s.site site).proven then lendSite b site c s else holdSite b site c s := by
  unfold answerFromSite
  dsimp only
  rw [free]

theorem answerFromSite_heldFor {n : Nat} (held : (s.site site).state = .held b c n) :
    answerFromSite b c site s =
      if (s.site site).proven then lendSite b site c s else sendTo b.toDir (.wait site c) s := by
  unfold answerFromSite
  dsimp only
  rw [held]
  exact if_pos ⟨rfl, rfl⟩

theorem answerFromSite_heldOther {b' : BorrowerDir} {c' : Cell} {n : Nat}
    (held : (s.site site).state = .held b' c' n) (other : ¬ (b' = b ∧ c' = c)) :
    answerFromSite b c site s = sendTo b.toDir (.refuse site c 1) s := by
  unfold answerFromSite
  dsimp only
  rw [held]
  exact if_neg other

theorem answerFromSite_lentTo (lent : (s.site site).state = .lent b c) :
    answerFromSite b c site s = sendTo b.toDir (.grant site c) s := by
  unfold answerFromSite
  dsimp only
  rw [lent]
  exact if_pos ⟨rfl, rfl⟩

theorem answerFromSite_lentOther {b' : BorrowerDir} {c' : Cell} (lent : (s.site site).state = .lent b' c')
    (other : ¬ (b' = b ∧ c' = c)) : answerFromSite b c site s = sendTo b.toDir (.refuse site c 1) s := by
  unfold answerFromSite
  dsimp only
  rw [lent]
  exact if_neg other

end Answer

/-- Settles O39: the quad, the lending, then the rows by the site's state. -/
theorem claimAnswered : Obligations.ClaimAnswered := by
  intro s rx d c site attempt takes h answers refused granted waits
  have taken {t : State} (comes : takeClaim d c site h = t) : answers t :=
    congrArg Host.Outcome.next ((receiveFromNeighbour_takes takes _).trans comes)
  have lending : h.cfg.lending = s.cfg.lending := by rw [updatePresence_cfg]
  refine ⟨fun outside => taken (takeClaim_outside outside),
    fun within off => taken (takeClaim_notLending within (lending.trans off)), fun within on => ?_⟩
  obtain ⟨b, is⟩ := borrower_of_inQuadFrom within
  obtain rfl := toDir_of_borrower is
  have row {t : State} (comes : answerFromSite b c site h = t) : answers t :=
    taken ((takeClaim_lending within (lending.trans on)).trans comes)
  refine ⟨fun absent => row (answerFromSite_absent absent), fun faulty => row (answerFromSite_faulty faulty),
    fun c' own => row (answerFromSite_own own), b, rfl, fun free proven => row ?_, fun free unproven => row ?_,
    fun n held unproven => row ?_, fun n held proven => row ?_, fun lent => row (answerFromSite_lentTo lent),
    fun b' c' n held other => row (answerFromSite_heldOther held other),
    fun b' c' lent other => row (answerFromSite_lentOther lent other)⟩
  · rw [answerFromSite_free free, if_pos proven]
    rfl
  · rw [answerFromSite_free free, unproven]
    rfl
  · rw [answerFromSite_heldFor held, unproven]
    rfl
  · rw [answerFromSite_heldFor held, if_pos proven]
    rfl

/-! ## The refresh (R143, R144) -/

/-- Settles O33: the lists of the tables that the refresh found, and the timer restarted. -/
theorem refreshSendsLists : Obligations.RefreshSendsLists := by
  intro s
  refine ⟨fun stopped => congrArg Host.Outcome.next (if_pos stopped), fun n running => ⟨rfl, ?_⟩⟩
  have runs : s.seam.refreshTimer ≠ none := by
    rw [running]
    nofun
  exact congrArg Host.Outcome.next ((if_neg runs).trans (refresh_listsSent s))

end Sys2Proof.Machine
end

section
/-! The drive port: the codes of a window, the plain frame of LOADING, frames sent, re-emitted and darkened, and the part started and held (R99 to R105, R113, R167, R168). -/

namespace Sys2Proof.Machine

/-! ## The codes of a window (R99) -/

section Codes

variable {code : Code} {codes : List Code} {s : State}

theorem exec_videoCode_on (on : s.mode ≠ .held) : exec (.videoCode code) s = .next (receiveCode code s) :=
  congrArg Host.Outcome.next (if_neg on)

/-- A code outside a window is discarded (R99). -/
theorem receiveCode_outside (outside : s.intake.receiving = none) : receiveCode code s = s := by
  unfold receiveCode
  rw [outside]

/-- A code that does not complete the window joins it (R99). -/
theorem receiveCode_joins (receiving : s.intake.receiving = some codes) (short : codes.length < 3467) :
    receiveCode code s = { s with intake := { s.intake with receiving := some (code :: codes) } } := by
  unfold receiveCode
  rw [receiving]
  exact dif_neg (by rw [List.length_cons]; omega)

end Codes

/-- Settles O13: held, the commands of the video do nothing; otherwise the code falls outside a window or joins it. -/
theorem videoCodesCollected : Obligations.VideoCodesCollected := by
  intro code s
  refine ⟨fun held => ⟨congrArg Host.Outcome.next (if_pos held), congrArg Host.Outcome.next (if_pos held)⟩,
    fun on => congrArg Host.Outcome.next (if_neg on), fun outside => ?_, fun codes on receiving short => ?_⟩
  · by_cases held : s.mode = .held
    · exact congrArg Host.Outcome.next (if_pos held)
    · rw [exec_videoCode_on held, receiveCode_outside outside]
  · rw [exec_videoCode_on on, receiveCode_joins receiving short]

/-! ## The plain frame of LOADING (R113) -/

theorem plainFrame_cell (vi : Intake) (c : Cell) (k : Colour) :
    ((plainFrame vi).cells.get c.index).get k = vi.code c.ext k := by
  simp [plainFrame, ofFn_get]

/-- Settles O15: the window completed is the frame start's, which outside RUN offers the port the plain frame. -/
theorem plainFrameInLoading : Obligations.PlainFrameInLoading := by
  intro code codes s loading receiving short
  let w : Tbl 3468 Code := ⟨(code :: codes).reverse, by simp [short]⟩
  refine ⟨w, plainFrame ⟨w, none, .receiving, some 0⟩, rfl, rfl, plainFrame_cell _, get_zeros, ?_⟩
  rw [exec_videoCode_on (by simp [loading]), receiveCode_completes receiving (by rw [List.length_cons, short]),
    frameStart, if_neg (by simp [loading]), frameStartInLoading, offer_eq]
  rfl

/-! ## Frames sent, re-emitted and darkened (R100 to R102, R105) -/

section Port

variable (ru : Render)

theorem emit_eq (kind : FrameKind) (f : DriveFrame) : ru.emit kind f =
    { ru with sending := if ru.sending = none then some (kind, f) else ru.sending } := by
  obtain ⟨sn, sending, waiting, last⟩ := ru
  cases sending <;> rfl

variable {ru}

theorem sent_idle (idle : ru.sending = none) : ru.sent = ru := by
  unfold Render.sent
  rw [idle]

theorem sent_busy {kind : FrameKind} {f : DriveFrame} (busy : ru.sending = some (kind, f)) : ru.sent = { ru with
    last := if kind = .rendered then f else ru.last
    sending := ru.waiting.map fun w => (.rendered, w)
    waiting := none } := by
  unfold Render.sent
  rw [busy]

end Port

section Loss

variable {s : State}

/-- The loss timer's first expiry is of an intake that is RECEIVING (R100). -/
theorem exec_lossTimerLost_noEffect (other : s.intake.state ≠ .receiving) : exec .lossTimerLost s = .next s :=
  congrArg Host.Outcome.next (if_neg other)

/-- The second expiry and the re-emission are of an intake that is LOST (R100, R101). -/
theorem exec_lost_noEffect (other : s.intake.state ≠ .lost) :
    exec .lossTimerDark s = .next s ∧ exec .reEmitTick s = .next s :=
  ⟨congrArg Host.Outcome.next (if_neg other), congrArg Host.Outcome.next (if_neg other)⟩

/-- Frames of all zeros are of an intake that is DARK (R102). -/
theorem exec_darkFrameTick_noEffect (other : s.intake.state ≠ .dark) : exec .darkFrameTick s = .next s :=
  congrArg Host.Outcome.next (if_neg fun h => other h.1)

end Loss

/-- Settles O16: the port by whether a frame is being sent, the loss hold by the intake's state. -/
theorem drivePortAndLossHold : Obligations.DrivePortAndLossHold := by
  intro s reEmit darken
  have reEmits : s.render.emit .reEmitted s.render.reEmission = reEmit := emit_eq _ _ _
  have darkens : s.render.emit .dark DriveFrame.zeros = darken := emit_eq _ _ _
  refine ⟨fun idle => ?_, fun kind f busy => ?_, fun receiving => ?_, fun lost => ?_, fun dark => ?_⟩
  · exact congrArg (fun ru => Host.Outcome.next { s with render := ru }) (sent_idle idle)
  · exact congrArg (fun ru => Host.Outcome.next { s with render := ru }) (sent_busy busy)
  · obtain ⟨noDark, noEmission⟩ := exec_lost_noEffect (s := s) (by simp [receiving])
    refine ⟨?_, noDark, noEmission, exec_darkFrameTick_noEffect (by simp [receiving])⟩
    rw [← reEmits]
    exact congrArg Host.Outcome.next (if_pos receiving)
  · refine ⟨?_, ?_, exec_lossTimerLost_noEffect (by simp [lost]), exec_darkFrameTick_noEffect (by simp [lost])⟩
    · rw [← darkens]
      exact congrArg Host.Outcome.next (if_pos lost)
    · rw [← reEmits]
      exact congrArg Host.Outcome.next (if_pos lost)
  · obtain ⟨noDark, noEmission⟩ := exec_lost_noEffect (s := s) (by simp [dark])
    refine ⟨?_, exec_lossTimerLost_noEffect (by simp [dark]), noDark, noEmission⟩
    rw [← darkens]
    by_cases held : s.mode = .held
    · rw [if_pos held]
      exact congrArg Host.Outcome.next (if_neg fun h => h.2 held)
    · rw [if_neg held]
      exact congrArg Host.Outcome.next (if_pos ⟨dark, held⟩)

/-! ## The part started and held (R102, R167, R168) -/

/-- A start leaves the state after reset but for what comes from outside: the straps, the supply-good pin, the waiting commands. -/
theorem startPart_eq_reset (straps : Pos) (s : State) : startPart straps s = { State.reset with
    position := straps, supply := { State.reset.supply with input := s.supply.input }, pending := s.pending } := rfl

/-- The line asserted stops the part started: no frame is sent and the store is not polled. -/
theorem holdPart_eq_startPart (s : State) : holdPart s = { startPart s.position s with
    mode := .held
    render := { (startPart s.position s).render with sending := none }
    store := { (startPart s.position s).store with pollTimer := none } } := rfl

/-- Settles O5: two of the commands start the part, the third holds it as it would be started. -/
theorem powerAndResetLine : Obligations.PowerAndResetLine := by
  intro straps s started
  have start : Host.Outcome.next (startPart straps s) = (.next started : Host.Outcome State Fault Refusal) :=
    congrArg Host.Outcome.next (startPart_eq_reset straps s)
  refine ⟨start, start, ?_⟩
  show Host.Outcome.next (holdPart s) = _
  rw [holdPart_eq_startPart, startPart_eq_reset]

end Sys2Proof.Machine
end

section
/-! The codes at the drive port through every step: each frame rendered holds codes of 0..65535, the port hands frames on as they are, and every command but power, the reset line, a video code and those of the drive port and the loss hold leaves the Render Unit (R101 to R105, R108 to R113). The parts that PartKept watches leave the Render Unit out, so its frame is gone through here. -/

namespace Sys2Proof.Machine

/-! ## The codes of a rendered frame (R108, R109, R112, R113) -/

theorem code_le (vi : Intake) (e : ExtCell) (k : Colour) : vi.code e k ≤ 65535 := by
  unfold Intake.code
  split
  · exact Nat.le_of_lt_succ (Fin.isLt _)
  · exact Nat.zero_le _

theorem cellDrive_le (share : Nat) (vi : Intake) (sn : Snapshot) (c : Cell) (k : Colour) :
    cellDrive share vi sn c k ≤ 65535 := by
  unfold cellDrive
  split
  · exact Nat.zero_le _
  · exact Nat.min_le_left _ _
  · exact Nat.min_le_left _ _

theorem siteDrive_le (vi : Intake) (sn : Snapshot) (site : Site) (k : Colour) : siteDrive vi sn site k ≤ 65535 := by
  unfold siteDrive
  split
  · exact code_le _ _ _
  · exact code_le _ _ _
  · exact Nat.zero_le _

theorem codesSound_renderFrame (share : Nat) (vi : Intake) (sn : Snapshot) (plan : Option ProbePlan) :
    (renderFrame share vi sn plan).codesSound := by
  refine ⟨fun n k => ?_, fun n k => ?_⟩
  · rw [← Cell.index_ofIndex n, renderFrame_cell]
    exact cellDrive_le _ _ _ _ _
  · rw [← Site.index_ofIndex n, renderFrame_site]
    exact siteDrive_le _ _ _ _

theorem codesSound_plainFrame (vi : Intake) : (plainFrame vi).codesSound := by
  refine ⟨fun n k => ?_, fun n k => (get_zeros n k).trans_le (Nat.zero_le _)⟩
  rw [← Cell.index_ofIndex n, plainFrame_cell]
  exact code_le _ _ _

/-! ## The frames that the port holds (R101 to R105) -/

/-- Every frame that the Render Unit holds for the port has codes of 0..65535: what DriveCodesSound says of its state. -/
def Render.codesSound (ru : Render) : Prop :=
  ru.last.codesSound ∧ (∀ f, ru.waiting = some f → f.codesSound) ∧
    ∀ kind f, ru.sending = some (kind, f) → f.codesSound

theorem driveCodesSound_iff (s : State) : DriveCodesSound s ↔ s.render.codesSound := Iff.rfl

namespace Render.codesSound

variable {ru : Render} (h : ru.codesSound)
include h

theorem offer {f : DriveFrame} (sound : f.codesSound) : (ru.offer f).codesSound := by
  obtain ⟨last, waiting, sending⟩ := h
  unfold Render.offer
  split
  · refine ⟨last, waiting, ?_⟩
    rintro _ _ ⟨⟩
    exact sound
  · refine ⟨last, ?_, sending⟩
    rintro _ ⟨⟩
    exact sound

theorem emit (kind : FrameKind) {f : DriveFrame} (sound : f.codesSound) : (ru.emit kind f).codesSound := by
  obtain ⟨last, waiting, _⟩ := id h
  unfold Render.emit
  split
  · refine ⟨last, waiting, ?_⟩
    rintro _ _ ⟨⟩
    exact sound
  · exact h

/-- The last drive frame again, its probe plan apart (R101). -/
theorem reEmit : (ru.emit .reEmitted ru.reEmission).codesSound := h.emit _ h.1

/-- A frame of all zeros (R102). -/
theorem darken : (ru.emit .dark DriveFrame.zeros).codesSound := h.emit _ codesSound_zeros

/-- A frame complete: it becomes the last one or the last one stands, and the waiting one is sent (R105). -/
theorem sent : ru.sent.codesSound := by
  obtain ⟨last, waiting, sending⟩ := id h
  unfold Render.sent
  split
  · exact h
  · rename_i kind f busy
    refine ⟨?_, nofun, fun kind' g next => ?_⟩
    · dsimp only
      split
      · exact sending kind f busy
      · exact last
    · obtain ⟨w, waits, same⟩ := Option.map_eq_some_iff.mp next
      obtain rfl := (Prod.mk.inj same).2
      exact waiting w waits

end Render.codesSound

/-! ## What leaves the Render Unit as it is -/

/-- Every change of the tables, the ports and the store leaves the Render Unit. -/
theorem render_kept (ru : Render) : TableKept fun t => t.render = ru where
  enqueue p n t h := by rw [enqueue_onlySends p n t]; exact h
  remedy _ _ _ h := h
  site _ _ _ h := h
  mark _ _ _ _ h := h
  raise _ _ h := h
  hear _ _ _ h _ := h
  request _ _ h := h
  fills edge positions t h := by unfold replaceFills; dsimp only; split <;> exact h
  timer _ h := h
  entries _ _ h := h
  cell _ _ _ h := h
  queue op t h := by unfold queueWrite; split <;> exact h
  cancel _ _ h := h

theorem ite_render {P : Prop} [Decidable P] {s t : State} (h : t.render = s.render) :
    (if P then t else s).render = s.render := by
  split
  · exact h
  · rfl

/-! ### Restart, RESCAN and service requests -/

theorem sectionRestart_render (s : State) : (sectionRestart s).render = s.render := by
  have k := render_kept s.render
  have seam : (restartSeam s).render = s.render := rfl
  have evidence (t : State) : (restartEvidence t).render = t.render := rfl
  exact k.refresh _ (k.rechooseAll _ _ _ ((evidence _).trans (k.dropLost _ _ _ (k.freeLost _ _ _ seam))))

theorem clearRetiredList_render (s : State) : (clearRetiredList s).render = s.render := by
  unfold clearRetiredList
  split
  · rfl
  · dsimp only
    split <;> rfl

theorem carryOut_render (command : ServiceCommand) (s : State) : (carryOut command s).1.render = s.render := by
  have k := render_kept s.render
  cases command with
  | querySummary | queryEntry => rfl
  | queryCell x y => unfold carryOut; dsimp only; split <;> rfl
  | querySite i j => unfold carryOut; dsimp only; split <;> rfl
  | mark x y => exact onCell_keeps (P := fun t => t.render = s.render) x y s rfl fun c => k.markCellRetired c s rfl
  | restore x y => exact onCell_keeps (P := fun t => t.render = s.render) x y s rfl fun c => k.restoreCell c s rfl
  | rescan => exact k.rechooseAll _ _ _ rfl
  | clearFlags => rfl
  | clearRetired => exact clearRetiredList_render s

theorem serviceRequest_render (rx : Rx) (tag code : Byte) (arguments : List Byte) (s : State) :
    (serviceRequest rx tag code arguments s).render = s.render := by
  have handled : (handleRequest rx.port tag code arguments s).1.render = s.render := by
    unfold handleRequest
    split
    · rfl
    · dsimp only
      split
      · rfl
      · exact carryOut_render _ _
  unfold serviceRequest
  split
  · split
    · rfl
    · exact foldl_keeps (fun t _ h => (render_kept s.render).enqueue _ _ t h) _ _ handled
  · rfl

theorem receiveRequest_render (rx : Rx) (tag code : Byte) (arguments : List Byte) (s : State) :
    (receiveRequest rx tag code arguments s).render = s.render := by
  have k := render_kept s.render
  unfold receiveRequest
  split
  · exact k.receive rx _ (fun t h => (serviceRequest_render rx tag code arguments t).trans h) s rfl
  · rfl

/-! ### Notices -/

theorem receiveNotice_render (p : PortId) (n : Notice) (s : State) : (receiveNotice p n s).render = s.render := by
  have k := render_kept s.render
  have toSeam (rx : Rx) {act : Dir → State → State}
      (h : ∀ d t, t.render = s.render → (act d t).render = s.render) :
      (receiveFromNeighbour rx act s).render = s.render := k.receiveFromNeighbour rx act h s rfl
  obtain ⟨src, dst, body⟩ := n
  unfold receiveNotice
  dsimp only
  cases body with
  | sectionRestart => exact k.receive _ _ (fun t h => (ite_render (sectionRestart_render t)).trans h) s rfl
  | grant site c => exact toSeam _ fun d => k.takeGrant d site c
  | refuse site c reason => exact toSeam _ fun d => k.takeRefuse d site c reason
  | wait site c => exact toSeam _ fun d => k.takeWait d site c
  | revoke site c => exact toSeam _ fun d => k.takeRevoke d site c
  | release site c => exact toSeam _ fun d => k.takeRelease d site c
  | claim c site _ => exact toSeam _ fun d => k.takeClaim d c site
  | holdList pairs => exact toSeam _ fun d => k.takeHoldList d pairs
  | loanList pairs => exact toSeam _ fun d => k.takeLoanList d pairs
  | fillList edge positions => exact toSeam _ fun d => k.takeFillList d edge positions
  | serviceRequest tag code arguments =>
    exact k.receive _ _ (fun t h => (serviceRequest_render _ tag code arguments t).trans h) s rfl
  | report tag kind bytes => exact k.receive _ _ (fun _ h => h) s rfl

/-! ### The load and entry to RUN -/

theorem takeRetiredList_render (bytes : Tbl 512 Byte) (s : State) : (takeRetiredList bytes s).render = s.render := by
  refine foldl_keeps (P := fun t => t.render = s.render) (fun t slot h => ?_) _ s rfl
  unfold loadSlot
  split
  case h_4 => split <;> exact h
  all_goals exact h

theorem enterRun_render (s : State) : (enterRun s).render = s.render := by
  have k := render_kept s.render
  have stored : (chooseStored (enterRunTables s)).render = s.render := k.chooseStored _ rfl
  exact k.refresh _ (foldl_keeps (P := fun t => t.render = s.render) (fun t _ h => k.queue _ t h) _
    (startProbe (startSupply (chooseStored (enterRunTables s)))) stored)

/-! ### Probing, silence and the store -/

theorem senseReport_render (number : Fin 256) (samples : List Sample) (s : State) :
    (senseReport number samples s).render = s.render := by
  have taken (plan : ProbePlan) : (takeReport plan samples s).render = s.render := by
    cases clean : s.probe.clean with
    | false => rw [takeReport_unclean clean]
    | true =>
      by_cases last : s.probe.n = 62
      · rw [takeReport_last clean last, endPass_eq]
      · rw [takeReport_counted clean last]
  unfold senseReport
  split
  · split
    · exact ite_render (taken _)
    · rfl
  · rfl

theorem silenceNeighbour_render (d : Dir) (s : State) : (silenceNeighbour d s).render = s.render := by
  have k := render_kept s.render
  unfold silenceNeighbour
  split
  · rfl
  · refine ite_render (k.dropLost _ _ _ (k.freeLost _ _ _ ?_))
    rfl

theorem portFailed_render (p : PortId) (s : State) : (portFailed p s).render = s.render := by
  unfold portFailed
  dsimp only
  split <;> rfl

theorem completeAppend_render (c : Cell) (s : State) : (completeAppend c s).render = s.render := by
  unfold completeAppend
  split <;> rfl

theorem beginAppend_render (c : Cell) (o : Origin) (s : State) : (beginAppend c o s).render = s.render := by
  unfold beginAppend
  split
  · exact completeAppend_render c s
  · split <;> rfl

theorem beginWrite_render (s : State) : (beginWrite s).render = s.render := by
  unfold beginWrite
  split
  · split
    · exact beginAppend_render _ _ _
    · split
      · exact beginAppend_render _ _ _
      · rfl
      · rfl
  · rfl

theorem endWrite_render (completed : Bool) (s : State) : (endWrite completed s).render = s.render := by
  have erased (t : State) : (eraseIfWaiting t).render = t.render := ite_render rfl
  unfold endWrite
  split
  · refine (erased _).trans ?_
    split
    · exact completeAppend_render _ _
    · rfl
  · refine (erased _).trans ?_
    split <;> rfl
  · rfl

theorem endErase_render (finished : Bool) (s : State) : (endErase finished s).render = s.render := by
  unfold endErase
  dsimp only
  split <;> rfl

/-! ### Every command -/

/-- The commands whose effect reaches the Render Unit: power, the reset line, a video code, and those of the drive port and the loss hold. -/
def reachesRender : Instr → Bool
  | .powerOn _ | .resetAssert | .resetRelease _ | .videoCode _ | .driveFrameSent
  | .lossTimerLost | .lossTimerDark | .reEmitTick | .darkFrameTick => true
  | _ => false

/-- Every other command leaves the Render Unit. -/
theorem after_render {c : Instr} (h : reachesRender c = false) (s : State) : (s.after c).render = s.render := by
  have k := render_kept s.render
  have seam (rx : Rx) (body : NoticeBody) :
      (receiveNotice rx.port ⟨rx.src, rx.dst, body⟩ s).render = s.render := receiveNotice_render _ _ s
  cases c with
  | powerOn | resetAssert | resetRelease | videoCode | driveFrameSent | lossTimerLost | lossTimerDark | reEmitTick
  | darkFrameTick => cases h
  | storeReadyAtLoad | storeMissingTimeout => exact ite_render rfl
  | configRecordRead bytes => exact ite_render (by unfold takeRecord; split <;> rfl)
  | calibrationAreaRead bytes => exact ite_render (by unfold takeCalibration; split <;> rfl)
  | retiredListRead bytes => exact ite_render (takeRetiredList_render bytes s)
  | enterRun => exact ite_render (enterRun_render s)
  | frameBeginMarker =>
    show State.render (if s.mode = .held then s else _) = _
    split <;> rfl
  | senseReport number samples => exact senseReport_render number samples s
  | stallTimerExpiry =>
    show State.render (if s.probe.stallTimer = none then s else _) = _
    split <;> rfl
  | overrideAppend =>
    show (settled s (execOverrideAppend s)).render = _
    unfold execOverrideAppend
    split <;> rfl
  | supplyLow | supplyHigh =>
    show State.render (if _ then _ else _) = _
    split <;> rfl
  | cellVerdict =>
    show (settled s (execCellVerdict s)).render = _
    unfold execCellVerdict
    split
    · rfl
    · exact k.takeCellVerdict _ _ rfl
  | siteVerdict =>
    show (settled s (execSiteVerdict s)).render = _
    unfold execSiteVerdict
    split
    · rfl
    · exact k.takeSiteVerdict _ _ rfl
  | sweepEnd =>
    show State.render (if s.handed.sweepEnds = 0 then s else _) = _
    split
    · rfl
    · exact k.takeSweepEnd _ rfl
  | claimRetryExpiry cell => exact k.retryClaim cell s rfl
  | holdExpiry site => exact k.endHold site s rfl
  | neighbourSilent d => exact silenceNeighbour_render d s
  | refreshTimerExpiry =>
    show State.render (if s.seam.refreshTimer = none then s else _) = _
    split
    · rfl
    · exact k.refresh s rfl
  | idleGapAttempt | attemptWon | contentionLost | quietTimerExpiry => rfl
  | attemptFailed p => exact portFailed_render p s
  | noticeMalformed p bits =>
    show (settled s (execNoticeMalformed p bits s)).render = _
    unfold execNoticeMalformed
    cases readNotice bits with
    | none => rfl
    | some n => exact receiveNotice_render p n s
  | claimReceived rx c site n => exact seam rx (.claim c site n)
  | grantReceived rx site c => exact seam rx (.grant site c)
  | waitReceived rx site c => exact seam rx (.wait site c)
  | refuseReceived rx site c reason => exact seam rx (.refuse site c reason)
  | revokeReceived rx site c => exact seam rx (.revoke site c)
  | releaseReceived rx site c => exact seam rx (.release site c)
  | holdListReceived rx pairs => exact ite_render (seam rx (.holdList pairs))
  | loanListReceived rx pairs => exact ite_render (seam rx (.loanList pairs))
  | fillListReceived rx edge positions => exact ite_render (seam rx (.fillList edge positions))
  | reportReceived rx tag kind body => exact ite_render (seam rx (.report tag kind body))
  | sectionRestart rx => exact seam rx .sectionRestart
  | querySummary | queryCell | querySite | queryEntry | mark | restore | rescan | clearFlags | clearRetired
  | serviceRequestUnknown =>
    show (settled s (.next _)).render = _
    exact receiveRequest_render _ _ _ _ s
  | storeWriteBegin => exact beginWrite_render s
  | storeWriteEnd error readBack => exact ite_render (endWrite_render _ s)
  | storeWriteTimeout => exact ite_render (endWrite_render _ s)
  | storeEraseEnd error => exact ite_render (endErase_render _ s)
  | storeEraseTimeout => exact ite_render (endErase_render _ s)

/-! ## The codes at the port through every step (R109) -/

theorem codesSound_starting (straps : Pos) (good : Bool) (queue : List Instr) :
    DriveCodesSound (State.starting straps good queue) := driveCodesSound_reset

theorem codesSound_holdPart (s : State) : DriveCodesSound (holdPart s) := ⟨codesSound_zeros, nofun, nofun⟩

section DriveCodes

variable {s : State} (h : DriveCodesSound s)
include h

theorem DriveCodesSound.frameStart : DriveCodesSound (frameStart s) := by
  unfold Machine.frameStart
  split
  · exact Render.codesSound.offer (ru := { s.render with snapshot := s.snapshot }) h (codesSound_renderFrame _ _ _ _)
  · exact Render.codesSound.offer h (codesSound_plainFrame _)

theorem DriveCodesSound.receiveCode (code : Code) : DriveCodesSound (receiveCode code s) := by
  unfold Machine.receiveCode
  split
  · exact h
  · split
    · refine DriveCodesSound.frameStart ?_
      exact h
    · exact h

/-- Every command keeps the codes at the port in range. -/
theorem DriveCodesSound.after (c : Instr) : DriveCodesSound (s.after c) := by
  have sound : s.render.codesSound := (driveCodesSound_iff s).mp h
  have ite {p : Prop} [Decidable p] {t u : State} (ht : DriveCodesSound t) (hu : DriveCodesSound u) :
      DriveCodesSound (if p then t else u) := by
    split
    · exact ht
    · exact hu
  cases c with
  | powerOn straps | resetRelease straps => exact codesSound_starting straps _ _
  | resetAssert => exact codesSound_holdPart s
  | videoCode code => exact ite h (h.receiveCode code)
  | driveFrameSent => exact sound.sent
  | lossTimerLost | reEmitTick => exact ite sound.reEmit h
  | lossTimerDark | darkFrameTick => exact ite sound.darken h
  | _ =>
    rw [driveCodesSound_iff, after_render rfl]
    exact sound

end DriveCodes

/-- Settles O57: every command keeps the codes in range and the count of the timers leaves the Render Unit, so every step does. -/
theorem stepKeepsDriveCodes : Obligations.StepKeepsDriveCodes :=
  fun _ _ h e => step_keeps (P := DriveCodesSound) (fun _ c h => h.after c) (fun _ h => h) (fun _ _ h => h) h e

end Sys2Proof.Machine
end

section
/-! A claim as it goes on: the retry timer's next attempt or end, and the answers that lend the site or hold it, GRANT and WAIT (R116, R117, R119, R120, R121). -/

namespace Sys2Proof.Machine

/-- Writing a claim's attempt and timer is a write of the ASKING remedy alone (R115). -/
theorem setClaim_eq (c : Cell) (owner : OwnerDir) (site : Site) (attempt timer : Nat) (s : State) :
    setClaim c owner site attempt timer s = s.writeRemedy c (.asking owner site attempt timer) := rfl

/-! ## The retry timer (R117) -/

section Retry

variable {s : State} {c : Cell} {owner : OwnerDir} {site : Site}

/-- The CLAIM of an attempt carries the attempt less one (R155). -/
theorem sendClaim_succ (n : Fin 16) :
    sendClaim c owner site (n.val + 1) s = sendTo owner.toDir (.claim c site n) s := by
  have carried : (n.val + 1 - 1) % 16 = n.val := by omega
  unfold sendClaim
  congr 2
  exact Fin.ext carried

/-- A claim before its 16th attempt has its next one sent, with the timer at 0. -/
theorem retryClaim_next {n : Fin 16} {timer : Nat} (asking : s.remedyOf c = some (.asking owner site n.val timer)) :
    retryClaim c s =
      sendTo owner.toDir (.claim c site n) (s.writeRemedy c (.asking owner site (n.val + 1) 0)) := by
  unfold retryClaim
  rw [asking]
  dsimp only
  rw [if_pos (show n.val < Config.lastAttempt from n.isLt), setClaim_eq, sendClaim_succ]

/-- The 16th attempt ends the claim; the cell stays filled, so nothing is told. -/
theorem retryClaim_last {timer : Nat} (asking : s.remedyOf c = some (.asking owner site 16 timer)) :
    retryClaim c s = s.writeRemedy c (.fill .noAnswer) := by
  obtain ⟨e, retired, filled⟩ := filled_of_asking asking
  unfold retryClaim
  rw [asking]
  exact giveRemedy_same retired filled fun _ => rfl

/-- An expiry for a cell that is not ASKING finds no timer (log entry 8). -/
theorem retryClaim_other (other : ∀ owner site n timer, s.remedyOf c ≠ some (.asking owner site n timer)) :
    retryClaim c s = s := by
  unfold retryClaim
  split
  · rename_i owner site n timer asking
    exact absurd asking (other owner site n timer)
  · rfl

end Retry

/-- Settles O30: by the cell's remedy, and for ASKING by the attempt. -/
theorem claimRetry : Obligations.ClaimRetry := by
  intro c s
  have expired : exec (.claimRetryExpiry c) s = .next (retryClaim c s) := rfl
  rw [expired]
  refine ⟨fun owner site n timer asking => ?_, fun owner site timer asking => ?_, fun other => ?_⟩
  · rw [retryClaim_next asking]
  · rw [retryClaim_last asking]
  · rw [retryClaim_other other]

/-! ## GRANT and WAIT (R119, R120, R121) -/

section Lent

variable {s : State} {d : Dir} {site : Site} {c : Cell} {owner : OwnerDir}

/-- A GRANT of a claim makes it a LOAN, and the cell leaves the filled cells (R119). -/
theorem takeGrant_asking {n timer : Nat} (from_ : owner.toDir = d)
    (asking : s.remedyOf c = some (.asking owner site n timer)) :
    takeGrant d site c s = (s.writeRemedy c (.loan owner site)).unfilled c := by
  obtain ⟨e, retired, filled⟩ := filled_of_asking asking
  unfold takeGrant
  rw [matchedRemedy_asking from_ asking]
  exact giveRemedy_unfilled retired filled rfl fun _ => rfl

theorem takeGrant_loan (from_ : owner.toDir = d) (loan : s.remedyOf c = some (.loan owner site)) :
    takeGrant d site c s = s := by
  unfold takeGrant
  rw [matchedRemedy_loan from_ loan]

/-- A GRANT that matches nothing is given back to its source (R120). -/
theorem takeGrant_unmatched (unmatched : ¬ Matches s d site c) :
    takeGrant d site c s = sendTo d (.release site c) s := by
  unfold takeGrant
  rw [matchedRemedy_none unmatched]
  rfl

/-- A WAIT restarts the timer of the claim it matches and keeps the attempt (R121). -/
theorem takeWait_asking {n timer : Nat} (from_ : owner.toDir = d)
    (asking : s.remedyOf c = some (.asking owner site n timer)) :
    takeWait d site c s = s.writeRemedy c (.asking owner site n 0) := by
  unfold takeWait
  rw [matchedRemedy_asking from_ asking]
  exact setClaim_eq c owner site n 0 s

theorem takeWait_loan (from_ : owner.toDir = d) (loan : s.remedyOf c = some (.loan owner site)) :
    takeWait d site c s = s := by
  unfold takeWait
  rw [matchedRemedy_loan from_ loan]

theorem takeWait_unmatched (unmatched : ¬ Matches s d site c) : takeWait d site c s = s := by
  unfold takeWait
  rw [matchedRemedy_none unmatched]

end Lent

/-- Settles O40: by the remedy of the entry that the answer matches. -/
theorem grantAndWaitTaken : Obligations.GrantAndWaitTaken := by
  intro s rx d site c takes h
  have granted : exec (.grantReceived rx site c) s = .next (takeGrant d site c h) :=
    congrArg Host.Outcome.next (receiveFromNeighbour_takes takes _)
  have waited : exec (.waitReceived rx site c) s = .next (takeWait d site c h) :=
    congrArg Host.Outcome.next (receiveFromNeighbour_takes takes _)
  rw [granted, waited]
  refine ⟨fun owner n timer from_ asking => ?_, fun owner from_ loan => ?_, fun unmatched => ?_⟩
  · rw [takeGrant_asking from_ asking, takeWait_asking from_ asking]
    exact ⟨rfl, rfl⟩
  · rw [takeGrant_loan from_ loan, takeWait_loan from_ loan]
    exact ⟨rfl, rfl⟩
  · rw [takeGrant_unmatched unmatched, takeWait_unmatched unmatched]
    exact ⟨rfl, rfl⟩

end Sys2Proof.Machine
end

section
/-! The fill records of a neighbour as its FILL_LIST gives them (R13, R148). -/

namespace Sys2Proof.Machine

/-- A wanted position finds no room when the places left are fewer than the wanted ones; a list that wants none always has room, even if the kept records alone exceed the places. -/
theorem fewer_places_iff {α : Type} (kept : Nat) (wanted : List α) :
    64 - kept < wanted.length ↔ 64 < kept + wanted.length ∧ wanted ≠ [] := by
  rw [← List.length_pos_iff]
  omega

/-- The records of an edge replaced as far as the places go, and the flag set when they do not suffice (R148). -/
theorem replaceFills_eq (edge : Edge) (positions : List (Fin 32)) (s : State) :
    let kept := s.seam.foreignFills.filter fun r => decide (r.edge ≠ edge)
    let wanted := firstUses positions
    replaceFills edge positions s = { s with
      seam := { s.seam with
        foreignFills := kept ++ (wanted.take (64 - kept.length)).map fun p => ⟨edge, p⟩ }
      flags := { s.flags with
        fillListFull := s.flags.fillListFull || decide (64 < kept.length + wanted.length ∧ wanted ≠ []) } } := by
  intro kept wanted
  have others : (s.seam.foreignFills.filter fun r => !decide (r.edge = edge)) = kept :=
    congrArg (s.seam.foreignFills.filter ·) (funext fun _ => decide_not.symm)
  unfold replaceFills
  rw [others]
  dsimp only [Config.foreignFillPlaces]
  by_cases short : 64 - kept.length < wanted.length
  · rw [if_pos short, decide_eq_true ((fewer_places_iff _ _).mp short), Bool.or_true]
    rfl
  · rw [if_neg short, decide_eq_false (mt (fewer_places_iff _ _).mpr short), Bool.or_false]

/-- A list across the edge that faces the tile's own one gives that edge's records. -/
theorem takeFillList_facing (own : Edge) (positions : List (Fin 32)) (s : State) :
    takeFillList own.toDir own.facing positions s = replaceFills own positions s := by
  unfold takeFillList
  rw [toDir_edge]
  exact if_pos rfl

/-- A list from NW or SE, or across an edge that does not face the tile, is discarded. -/
theorem takeFillList_other {d : Dir} {edge : Edge} (other : ∀ own : Edge, own.toDir = d → edge ≠ own.facing)
    (positions : List (Fin 32)) (s : State) : takeFillList d edge positions s = s := by
  unfold takeFillList
  cases is : d.edge with
  | none => rfl
  | some own => exact if_neg (other own (toDir_of_edge is))

/-- Settles O44: whether the list's edge faces one of the tile's own in the direction it comes from. -/
theorem fillListTaken : Obligations.FillListTaken := by
  intro s rx d edge positions takes short h
  have taken : exec (.fillListReceived rx edge positions) s = .next (takeFillList d edge positions h) :=
    congrArg Host.Outcome.next ((if_pos (decide_eq_true short)).trans (receiveFromNeighbour_takes takes _))
  rw [taken]
  refine ⟨fun other => congrArg _ (takeFillList_other other positions h), ?_⟩
  rintro own rfl rfl
  exact congrArg _ ((takeFillList_facing own positions h).trans (replaceFills_eq own positions h))

end Sys2Proof.Machine
end

section
/-! The sending of a Link Port: the attempt at an idle gap, and its three ends (R157 to R159, R162). -/

namespace Sys2Proof.Machine

/-- A port written as it stands changes nothing. -/
theorem setPort_port (p : PortId) (s : State) : s.setPort p (s.port p) = s :=
  congrArg (fun ports => { s with ports := ports }) (PerPort.set_get s.ports p)

/-! ## An idle gap (R157, R159) -/

section IdleGap

variable {port : Port}

theorem idleGap_unready (h : ¬ (port.state = .ready ∧ port.attempt = none)) : port.idleGap = port := if_neg h

variable (ready : port.state = .ready) (between : port.attempt = none)
include ready between

theorem idleGap_again {n : Notice} (current : port.current = some n) :
    port.idleGap = { port with attempt := some (noticeBits n) } := by
  simp [Port.idleGap, ready, between, current]

theorem idleGap_answer {n : Notice} {rest : List Notice} (current : port.current = none)
    (answers : port.answers = n :: rest) : port.idleGap = { port with answers := rest }.take n := by
  simp [Port.idleGap, ready, between, current, answers]

theorem idleGap_notice {n : Notice} {rest : List Notice} (current : port.current = none)
    (answers : port.answers = []) (notices : port.notices = n :: rest) :
    port.idleGap = { port with notices := rest }.take n := by
  simp [Port.idleGap, ready, between, current, answers, notices]

theorem idleGap_nothing (current : port.current = none) (answers : port.answers = [])
    (notices : port.notices = []) : port.idleGap = port := by
  simp [Port.idleGap, ready, between, current, answers, notices]

end IdleGap

/-- Settles O34: whether the port may try at all, and then what it has to send. -/
theorem idleGapAttempt : Obligations.IdleGapAttempt := by
  intro p s
  have gap {port : Port} (h : (s.port p).idleGap = port) : exec (.idleGapAttempt p) s = .next (s.setPort p port) :=
    congrArg (Host.Outcome.next ∘ s.setPort p) h
  have idle (h : (s.port p).idleGap = s.port p) : exec (.idleGapAttempt p) s = .next s :=
    (gap h).trans (congrArg _ (setPort_port p s))
  refine ⟨fun not => idle (idleGap_unready not), fun ready between => ?_⟩
  exact ⟨fun n current => gap (idleGap_again ready between current),
    fun n rest current answers => gap (idleGap_answer ready between current answers),
    fun n rest current answers notices => gap (idleGap_notice ready between current answers notices),
    fun current answers notices => idle (idleGap_nothing ready between current answers notices)⟩

/-! ## The end of an attempt (R157, R158, R162) -/

section AttemptEnd

variable {port : Port} {bits : List Bool}

theorem won_between (h : port.attempt = none) : port.won = port := if_pos h

theorem lost_between (h : port.attempt = none) : port.lost = port := if_pos h

theorem failed_between (h : port.attempt = none) : port.failed = port := if_pos h

theorem won_attempt (h : port.attempt = some bits) : port.won = port.finished := if_neg (by simp [h])

theorem lost_attempt (h : port.attempt = some bits) :
    port.lost = if port.dropAfter then port.finished else { port with attempt := none } := if_neg (by simp [h])

theorem failed_attempt (h : port.attempt = some bits) : port.failed =
    if port.dropAfter then port.finished
    else if port.failsQuiet then { port.finished with state := .quiet, quietTimer := some 0 }
    else { port with attempt := none, failCount := port.failCount + 1 } := if_neg (by simp [h])

/-- The eighth failure in a row of a notice still to be tried is the one that makes the port QUIET (R158). -/
theorem failsQuiet_iff : port.failsQuiet = true ↔
    (∃ bits, port.attempt = some bits) ∧ port.dropAfter = false ∧ 8 ≤ port.failCount + 1 := by
  simp [Port.failsQuiet, Option.isSome_iff_exists, and_assoc]

variable {s : State} {p : PortId}

theorem portFailed_again (h : (s.port p).failsQuiet = false) : portFailed p s = s.setPort p (s.port p).failed :=
  if_neg (by simp [h])

theorem portFailed_quiet (h : (s.port p).failsQuiet = true) :
    portFailed p s = (s.setPort p (s.port p).failed).raise .linkQuietSeen := if_pos h

end AttemptEnd

/-- Settles O35: no attempt, an attempt that a section restart made the last, an attempt to be tried again; and the end of QUIET. -/
theorem attemptEnds : Obligations.AttemptEnds := by
  intro p s port dropped
  have stands {t : Port} (h : t = port) : s.setPort p t = s := by rw [h]; exact setPort_port p s
  refine ⟨fun between => ?_, fun bits attempt => ⟨?_, fun last => ?_, fun again => ?_⟩, fun quiet => ?_,
    fun other => ?_⟩
  · have loud : port.failsQuiet = false := by simp [Port.failsQuiet, between]
    exact ⟨congrArg _ (stands (won_between between)), congrArg _ (stands (lost_between between)),
      congrArg _ ((portFailed_again loud).trans (stands (failed_between between)))⟩
  · exact congrArg (Host.Outcome.next ∘ s.setPort p) (won_attempt attempt)
  · have loud : port.failsQuiet = false := by simp [Port.failsQuiet, last]
    have lost : port.lost = dropped := (lost_attempt attempt).trans (if_pos last)
    have failed : port.failed = dropped := (failed_attempt attempt).trans (if_pos last)
    exact ⟨congrArg (Host.Outcome.next ∘ s.setPort p) lost,
      congrArg _ ((portFailed_again loud).trans (congrArg (s.setPort p) failed))⟩
  · have tried : ¬ port.dropAfter = true := by simp [again]
    refine ⟨?_, fun few => ?_, fun eighth => ?_⟩
    · exact congrArg (Host.Outcome.next ∘ s.setPort p) ((lost_attempt attempt).trans (if_neg tried))
    · have loud : ¬ port.failsQuiet = true := fun h => by
        obtain ⟨-, -, eight⟩ := failsQuiet_iff.mp h
        omega
      have failed := ((failed_attempt attempt).trans (if_neg tried)).trans (if_neg loud)
      exact congrArg _ ((portFailed_again (Bool.eq_false_iff.mpr loud)).trans (congrArg (s.setPort p) failed))
    · have hush : port.failsQuiet = true := failsQuiet_iff.mpr ⟨⟨bits, attempt⟩, again, eighth⟩
      have failed := ((failed_attempt attempt).trans (if_neg tried)).trans (if_pos hush)
      exact congrArg _ ((portFailed_quiet hush).trans (congrArg (fun t => (s.setPort p t).raise .linkQuietSeen) failed))
  · exact congrArg (Host.Outcome.next ∘ s.setPort p) (if_pos quiet)
  · exact congrArg _ (stands (if_neg other))

end Sys2Proof.Machine
end

section
/-! Service requests turned away (R165, R182). -/

namespace Sys2Proof.Machine

/-! ## The commands as requests (R183) -/

/-- The five commands that a repeat does not carry out again (R182). -/
def actingRequests (rx : Rx) (tag x y : Byte) : List Instr :=
  [.mark rx tag x y, .restore rx tag x y, .rescan rx tag, .clearFlags rx tag, .clearRetired rx tag]

/-- The queries that one report answers (R182). -/
def singleQueries (rx : Rx) (tag x y : Byte) : List Instr :=
  [.queryCell rx tag x y, .querySite rx tag x y, .queryEntry rx tag x]

section Requests

variable {rx : Rx} {tag x y : Byte} {i : Instr}

theorem exec_actingRequest (h : i ∈ actingRequests rx tag x y) (s : State) : ∃ code arguments,
    exec i s = .next (receiveRequest rx tag code arguments s) ∧ arguments.length ≤ 38 ∧
      isActing code = true ∧ placesNeeded (readCommand code arguments) = 1 := by
  simp only [actingRequests, List.mem_cons, List.not_mem_nil, or_false] at h
  rcases h with rfl | rfl | rfl | rfl | rfl
  all_goals exact ⟨_, _, rfl, by simp, rfl, rfl⟩

theorem exec_singleQuery (h : i ∈ singleQueries rx tag x y) (s : State) : ∃ code arguments,
    exec i s = .next (receiveRequest rx tag code arguments s) ∧ arguments.length ≤ 38 ∧
      placesNeeded (readCommand code arguments) = 1 := by
  simp only [singleQueries, List.mem_cons, List.not_mem_nil, or_false] at h
  rcases h with rfl | rfl | rfl
  all_goals exact ⟨_, _, rfl, by simp, rfl⟩

/-- An acting command or one of the single queries is a request whose answer takes one place. -/
theorem exec_singleRequest (h : i ∈ actingRequests rx tag x y ++ singleQueries rx tag x y) (s : State) :
    ∃ code arguments, exec i s = .next (receiveRequest rx tag code arguments s) ∧ arguments.length ≤ 38 ∧
      placesNeeded (readCommand code arguments) = 1 := by
  rcases List.mem_append.mp h with acting | query
  · obtain ⟨code, arguments, e, short, -, one⟩ := exec_actingRequest acting s
    exact ⟨code, arguments, e, short, one⟩
  · exact exec_singleQuery query s

variable {s : State} {code : Byte} {arguments : List Byte}

/-! ## A request that is not carried out (R165, R182) -/

/-- A request to ALL is ignored, and one from a tile discarded (R165). -/
theorem serviceRequest_passed (h : rx.src.isStation = false ∨ rx.dst ≠ s.position) (tag code : Byte)
    (arguments : List Byte) : serviceRequest rx tag code arguments s = s := by
  unfold serviceRequest
  rw [if_neg]
  rintro ⟨station, here⟩
  rcases h with tile | elsewhere
  · simp [station] at tile
  · exact elsewhere here

/-- Every request takes a place for its answer. -/
theorem placesNeeded_pos (command : Option ServiceCommand) : 0 < placesNeeded command := by
  unfold placesNeeded
  split <;> omega

/-- A request whose answer finds too few places is dropped whole, whatever it asks (R182). -/
theorem serviceRequest_full (station : rx.src.isStation = true) (here : rx.dst = s.position)
    (full : 4 < placesNeeded (readCommand code arguments) + (s.port rx.port).answers.length) :
    serviceRequest rx tag code arguments s = s.raise .queueFull := by
  have place := placesNeeded_pos (readCommand code arguments)
  unfold serviceRequest
  rw [if_pos ⟨station, here⟩]
  exact if_pos (by show 4 - (s.port rx.port).answers.length < _; omega)

theorem setLastTag_same {p : PortId} (h : s.lastTag p = some tag) : s.setLastTag p tag = s := by
  unfold State.setLastTag
  rw [← h]
  exact congrArg (fun tags => { s with lastTags := tags }) (PerPort.set_get s.lastTags p)

/-- A repeat of an acting command leaves the state and is answered REPEATED. -/
theorem handleRequest_repeat {p : PortId} (acting : isActing code = true) (last : s.lastTag p = some tag) :
    handleRequest p tag code arguments s = (s, [ackReport .repeated]) := by
  unfold handleRequest
  rw [if_pos (by simp [State.isRepeat, acting, last]), setLastTag_same last]

end Requests

/-- Settles O51: a repeat is answered, a request without room raises QUEUE_FULL, and one that is not a station's to this tile stops at the presence update. -/
theorem requestsTurnedAway : Obligations.RequestsTurnedAway := by
  intro s rx tag x y on other h acting queries
  refine ⟨fun station here => ?_, fun heard elsewhere i hi => ?_⟩
  · have fromStation : FromStation s rx := ⟨on, station, here⟩
    have here' : rx.dst = h.position := by rw [updatePresence_position, here]
    have dropped {code : Byte} {arguments : List Byte} (short : arguments.length ≤ 38)
        (full : 4 < placesNeeded (readCommand code arguments) + (h.port rx.port).answers.length) :
        receiveRequest rx tag code arguments s = h.raise .queueFull :=
      (receiveRequest_fromStation fromStation tag code arguments short).trans
        (serviceRequest_full station here' full)
    refine ⟨fun i hi room last => ?_, fun i hi full => ?_, fun full => ?_⟩
    · obtain ⟨code, arguments, e, short, acts, one⟩ := exec_actingRequest hi s
      rw [e, receiveRequest_answered fromStation short one (handleRequest_repeat acts last) rfl room]
    · obtain ⟨code, arguments, e, short, one⟩ := exec_singleRequest hi s
      rw [e, dropped short (by omega)]
      rfl
    · exact congrArg Host.Outcome.next
        (dropped (by simp) (by show 4 < 2 + _; omega))
  · have passed {code : Byte} {arguments : List Byte} (short : arguments.length ≤ 38) :
        receiveRequest rx tag code arguments s = h := by
      rw [receiveRequest_short tag code short, receive_heard on other, if_pos heard]
      exact serviceRequest_passed (elsewhere.imp_right fun ne => by rwa [updatePresence_position]) tag code arguments
    rcases List.mem_cons.mp hi with rfl | single
    · exact congrArg Host.Outcome.next (passed (by simp))
    · obtain ⟨code, arguments, e, short, -⟩ := exec_singleRequest single s
      rw [e, passed short]

end Sys2Proof.Machine
end

section
/-! Every notice is read back from the bits it is sent as (section 9.2, R155, R156). -/

namespace Sys2Proof.Machine

/-! ## A field read from its place in a bit string -/

section Fields

variable {xs ys : List Bool} {start w k v : Nat}

@[simp] theorem length_bitsOfNat (w v : Nat) : (bitsOfNat w v).length = w := by
  induction w with
  | zero => rfl
  | succ w ih => rw [bitsOfNat, List.length_cons, ih]

/-- The number in a field's bits is its value, as far as the width goes. -/
theorem natOfBits_bitsOfNat (w v : Nat) : natOfBits (bitsOfNat w v) = v % 2 ^ w := by
  induction w generalizing v with
  | zero => rw [Nat.pow_zero, Nat.mod_one]; rfl
  | succ w ih =>
    rw [bitsOfNat_append, natOfBits_append, ih, Nat.toNat_testBit, Nat.pow_zero, Nat.div_one, Nat.pow_succ',
      Nat.mod_mul, Nat.add_comm]

/-- A slice that lies within the first part of a bit string. -/
theorem bitSlice_append_left (h : start + w ≤ xs.length) : bitSlice (xs ++ ys) start w = bitSlice xs start w := by
  unfold bitSlice
  rw [List.drop_append_of_le_length (by omega), List.take_append_of_le_length (by rw [List.length_drop]; omega)]

/-- A slice that lies beyond the first part of a bit string. -/
theorem bitSlice_append_right (h : xs.length ≤ start) :
    bitSlice (xs ++ ys) start w = bitSlice ys (start - xs.length) w := by
  unfold bitSlice
  rw [List.drop_append, List.drop_eq_nil_of_le h, List.nil_append]

/-- The whole of the first part of a bit string. -/
theorem bitSlice_first (xs ys : List Bool) : bitSlice (xs ++ ys) 0 xs.length = xs := List.take_left

/-- The first field of a bit string passed over. -/
@[simp] theorem bitSlice_skip (h : k ≤ start) : bitSlice (bitsOfNat k v ++ ys) start w = bitSlice ys (start - k) w := by
  rw [bitSlice_append_right (by simpa using h), length_bitsOfNat]

@[simp] theorem natSlice_skip (h : k ≤ start) : natSlice (bitsOfNat k v ++ ys) start w = natSlice ys (start - k) w :=
  congrArg natOfBits (bitSlice_skip h)

/-- A field at the start of a bit string. -/
@[simp] theorem natSlice_field (w v : Nat) (ys : List Bool) : natSlice (bitsOfNat w v ++ ys) 0 w = v % 2 ^ w := by
  have first := bitSlice_first (bitsOfNat w v) ys
  rw [length_bitsOfNat] at first
  rw [natSlice, first, natOfBits_bitsOfNat]

/-- A field that is the whole of a bit string. -/
@[simp] theorem natSlice_whole (w v : Nat) : natSlice (bitsOfNat w v) 0 w = v % 2 ^ w := by
  simpa using natSlice_field w v []

end Fields

/-! ## Records of one width, one behind another -/

section Records

variable {α : Type} {encode : α → List Bool} {width : Nat}

theorem length_records (fixed : ∀ a, (encode a).length = width) (items : List α) :
    (items.flatMap encode).length = width * items.length := by
  induction items with
  | nil => rfl
  | cons a items ih => rw [List.flatMap_cons, List.length_append, fixed, ih, List.length_cons, Nat.mul_succ, Nat.add_comm]

/-- A field within a record is read at the record's place. -/
theorem natSlice_record (fixed : ∀ a, (encode a).length = width) {start w : Nat} (within : start + w ≤ width)
    (rest : List Bool) (items : List α) (n : Nat) (h : n < items.length) :
    natSlice (items.flatMap encode ++ rest) (width * n + start) w = natSlice (encode items[n]) start w := by
  induction items generalizing n with
  | nil => exact absurd h (Nat.not_lt_zero n)
  | cons a items ih =>
    rw [List.flatMap_cons, List.append_assoc]
    cases n with
    | zero =>
      rw [Nat.mul_zero, Nat.zero_add, natSlice, bitSlice_append_left (by rw [fixed]; exact within)]
      rfl
    | succ n =>
      have next : width * (n + 1) + start - (encode a).length = width * n + start := by
        rw [fixed, Nat.mul_succ]; omega
      rw [natSlice, bitSlice_append_right (by rw [fixed, Nat.mul_succ]; omega), next]
      exact ih n (Nat.lt_of_succ_lt_succ h)

end Records

/-! ## What the fields of a notice are read as (R155) -/

section Readers

variable {bits : List Bool} {start : Nat}

theorem readSite_eq {site : Site} (h : natSlice bits start 8 = site.index.val) : readSite bits start = site := by
  have same : (⟨natSlice bits start 8 % 256, by omega⟩ : Fin 256) = site.index :=
    Fin.ext ((congrArg (· % 256) h).trans (Nat.mod_eq_of_lt site.index.isLt))
  rw [readSite, same, Site.ofIndex_index]

theorem readCell_eq {c : Cell} (h : natSlice bits start 10 = c.index.val) : readCell bits start = c := by
  have same : (⟨natSlice bits start 10 % 1024, by omega⟩ : Fin 1024) = c.index :=
    Fin.ext ((congrArg (· % 1024) h).trans (Nat.mod_eq_of_lt c.index.isLt))
  rw [readCell, same, Cell.ofIndex_index]

theorem readNibble_eq {v : Fin 16} (h : natSlice bits start 4 = v.val) : readNibble bits start = v :=
  Fin.ext ((congrArg (· % 16) h).trans (Nat.mod_eq_of_lt v.isLt))

theorem readByte_eq {b : Byte} (h : natSlice bits start 8 = b.toNat) : readByte bits start = b := by
  rw [readByte, h, BitVec.ofNat_toNat, BitVec.setWidth_eq]

theorem readPos_eq {p : Pos} (col : natSlice bits start 7 = p.col.val) (row : natSlice bits (start + 7) 6 = p.row.val) :
    readPos bits start = p := by
  obtain ⟨c, r⟩ := p
  exact congrArg₂ Pos.mk (Fin.ext ((congrArg (· % 128) col).trans (Nat.mod_eq_of_lt c.isLt)))
    (Fin.ext ((congrArg (· % 64) row).trans (Nat.mod_eq_of_lt r.isLt)))

theorem edgeOfCode_edgeCode (edge : Edge) : edgeOfCode (edgeCode edge) = edge := by cases edge <;> rfl

/-- The value of an operand fits the width of its field. -/
theorem mod_width {n w : Nat} (v : Fin n) (h : n ≤ 2 ^ w) : v.val % 2 ^ w = v.val :=
  Nat.mod_eq_of_lt (Nat.lt_of_lt_of_le v.isLt h)

@[simp] theorem length_siteBits (site : Site) : (siteBits site).length = 8 := length_bitsOfNat 8 _

@[simp] theorem length_cellBits (c : Cell) : (cellBits c).length = 10 := length_bitsOfNat 10 _

@[simp] theorem length_posBits (p : Pos) : (posBits p).length = 13 := by simp [posBits]

@[simp] theorem length_bitsOfByte (b : Byte) : (bitsOfByte b).length = 8 := length_bitsOfNat 8 _

@[simp] theorem length_bitsOfBytes (bytes : List Byte) : (bitsOfBytes bytes).length = 8 * bytes.length :=
  length_records length_bitsOfByte bytes

/-- A site and then a cell, as five kinds carry them. -/
theorem readSite_siteCell (site : Site) (c : Cell) (rest : List Bool) :
    readSite (siteBits site ++ (cellBits c ++ rest)) 0 = site :=
  readSite_eq ((natSlice_field 8 _ _).trans (mod_width _ (by decide)))

theorem readCell_siteCell (site : Site) (c : Cell) (rest : List Bool) :
    readCell (siteBits site ++ (cellBits c ++ rest)) 8 = c :=
  readCell_eq ((natSlice_skip (by decide)).trans ((natSlice_field 10 _ _).trans (mod_width _ (by decide))))

end Readers

/-! ## The counted payloads (section 9.2) -/

section Lists

/-- A pair of a HOLD_LIST or LOAN_LIST as its 18 bits. -/
def pairBits (pair : LoanPair) : List Bool := siteBits pair.site ++ cellBits pair.cell

theorem length_pairBits (pair : LoanPair) : (pairBits pair).length = 18 := by simp [pairBits]

theorem length_pairsBits (pairs : List LoanPair) : (pairsBits pairs).length = 5 + 18 * pairs.length := by
  rw [pairsBits, List.length_append, length_bitsOfNat]
  exact congrArg (5 + ·) (length_records length_pairBits pairs)

theorem readPairs_pairsBits {pairs : List LoanPair} (range : pairs.length ≤ 16) (rest : List Bool) :
    readPairs (pairsBits pairs ++ rest) = pairs := by
  have layout : pairsBits pairs ++ rest = bitsOfNat 5 pairs.length ++ (pairs.flatMap pairBits ++ rest) :=
    List.append_assoc _ _ _
  have count : natSlice (pairsBits pairs ++ rest) 0 5 = pairs.length := by
    rw [layout, natSlice_field]
    exact Nat.mod_eq_of_lt (by omega)
  unfold readPairs
  rw [count, layout]
  refine List.ext_getElem (by simp) fun n _ h => ?_
  have place {k w : Nat} (within : k + w ≤ 18) :
      natSlice (bitsOfNat 5 pairs.length ++ (pairs.flatMap pairBits ++ rest)) (5 + k + 18 * n) w =
        natSlice (pairBits pairs[n]) k w := by
    rw [natSlice_skip (by omega), show 5 + k + 18 * n - 5 = 18 * n + k by omega]
    exact natSlice_record length_pairBits within rest pairs n h
  rw [List.getElem_map, List.getElem_range]
  exact congrArg₂ LoanPair.mk
    (readSite_eq ((place (k := 0) (by decide)).trans ((natSlice_field 8 _ _).trans (mod_width _ (by decide)))))
    (readCell_eq ((place (k := 8) (by decide)).trans
      ((natSlice_skip (by decide)).trans ((natSlice_whole 10 _).trans (mod_width _ (by decide))))))

/-- A position of a FILL_LIST as its 5 bits. -/
def positionBits (p : Fin 32) : List Bool := bitsOfNat 5 p.val

theorem length_positionBits (p : Fin 32) : (positionBits p).length = 5 := length_bitsOfNat 5 _

theorem length_fillListBits (edge : Edge) (positions : List (Fin 32)) :
    (fieldBits (.fillList edge positions)).length = 8 + 5 * positions.length := by
  rw [fieldBits, List.length_append, List.length_append, length_bitsOfNat, length_bitsOfNat]
  exact congrArg (8 + ·) (length_records length_positionBits positions)

theorem readPositions_fieldBits (edge : Edge) {positions : List (Fin 32)} (range : positions.length ≤ 32)
    (rest : List Bool) : readPositions (fieldBits (.fillList edge positions) ++ rest) = positions := by
  have layout : fieldBits (.fillList edge positions) ++ rest = bitsOfNat 2 (edgeCode edge) ++
      (bitsOfNat 6 positions.length ++ (positions.flatMap positionBits ++ rest)) := by
    rw [← List.append_assoc, ← List.append_assoc]
    rfl
  have count : natSlice (fieldBits (.fillList edge positions) ++ rest) 2 6 = positions.length := by
    rw [layout, natSlice_skip (by decide)]
    exact (natSlice_field 6 _ _).trans (Nat.mod_eq_of_lt (by omega))
  unfold readPositions
  rw [count, layout]
  refine List.ext_getElem (by simp) fun n _ h => Fin.ext ?_
  rw [List.getElem_map, List.getElem_range]
  have place : 8 + 5 * n - 2 - 6 = 5 * n + 0 := by omega
  dsimp only
  rw [natSlice_skip (by omega), natSlice_skip (by omega), place,
    natSlice_record length_positionBits (by decide) rest positions n h, positionBits, natSlice_whole,
    mod_width _ (by decide)]
  exact Nat.mod_eq_of_lt positions[n].isLt

theorem readEdge_fieldBits (edge : Edge) (positions : List (Fin 32)) (rest : List Bool) :
    edgeOfCode (natSlice (fieldBits (.fillList edge positions) ++ rest) 0 2) = edge := by
  have fits : edgeCode edge % 2 ^ 2 = edgeCode edge := by cases edge <;> rfl
  rw [fieldBits, List.append_assoc, List.append_assoc, natSlice_field, fits, edgeOfCode_edgeCode]

theorem readByte_bitsOfBytes (bytes : List Byte) (rest : List Bool) (n : Nat) (h : n < bytes.length) :
    readByte (bitsOfBytes bytes ++ rest) (8 * n) = bytes[n] :=
  readByte_eq ((natSlice_record length_bitsOfByte (by decide) rest bytes n h).trans
    ((natSlice_whole 8 _).trans (Nat.mod_eq_of_lt (bytes[n]).isLt)))

/-- The bytes of a payload from one of its bytes on. -/
theorem readBytes_bitsOfBytes (bytes : List Byte) (rest : List Bool) (first : Nat) :
    readBytes (bitsOfBytes bytes ++ rest) first bytes.length = bytes.drop first := by
  unfold readBytes
  refine List.ext_getElem (by simp) fun n h _ => ?_
  rw [List.length_map, List.length_range] at h
  rw [List.getElem_map, List.getElem_range, readByte_bitsOfBytes bytes rest (first + n) (by omega), List.getElem_drop]

end Lists

/-! ## The payload of each kind (section 9.2, R155) -/

section Bodies

/-- The length byte count of a notice in range fits its 6 bits. -/
theorem byteCount_fieldBits {body : NoticeBody} (range : countInRange body = true) :
    byteCount (fieldBits body).length < 64 := by
  unfold byteCount
  cases body with
  | holdList pairs | loanList pairs =>
    have := of_decide_eq_true range
    rw [fieldBits, length_pairsBits]
    omega
  | fillList edge positions =>
    have := of_decide_eq_true range
    rw [length_fillListBits]
    omega
  | serviceRequest tag code bytes | report tag code bytes =>
    have := of_decide_eq_true range
    rw [fieldBits, length_bitsOfBytes, List.length_cons, List.length_cons]
    omega
  | _ => simp [fieldBits]

/-- A payload of each kind is read back, whatever bits close it. -/
theorem readBody_fieldBits {body : NoticeBody} (range : countInRange body = true) (closing : List Bool) :
    readBody (kindCode body) (byteCount (fieldBits body).length) (fieldBits body ++ closing) = some body := by
  cases body with
  | sectionRestart => rfl
  | grant site c | wait site c | revoke site c | release site c =>
    simp [readBody, kindCode, fieldBits, byteCount, readSite_siteCell, readCell_siteCell]
  | refuse site c reason =>
    have reads (bits : List Bool) :
        readNibble (siteBits site ++ (cellBits c ++ (bitsOfNat 4 reason.val ++ bits))) 18 = reason :=
      readNibble_eq ((natSlice_skip (by decide)).trans ((natSlice_skip (by decide)).trans
        ((natSlice_field 4 _ _).trans (mod_width _ (by decide)))))
    simp [readBody, kindCode, fieldBits, byteCount, readSite_siteCell, readCell_siteCell, reads]
  | claim c site attempt =>
    have cell (bits : List Bool) : readCell (cellBits c ++ bits) 0 = c :=
      readCell_eq ((natSlice_field 10 _ _).trans (mod_width _ (by decide)))
    have own (bits : List Bool) : readSite (cellBits c ++ (siteBits site ++ bits)) 10 = site :=
      readSite_eq ((natSlice_skip (by decide)).trans ((natSlice_field 8 _ _).trans (mod_width _ (by decide))))
    have reads (bits : List Bool) :
        readNibble (cellBits c ++ (siteBits site ++ (bitsOfNat 4 attempt.val ++ bits))) 18 = attempt :=
      readNibble_eq ((natSlice_skip (by decide)).trans ((natSlice_skip (by decide)).trans
        ((natSlice_field 4 _ _).trans (mod_width _ (by decide)))))
    simp [readBody, kindCode, fieldBits, byteCount, cell, own, reads]
  | holdList pairs | loanList pairs =>
    simp [readBody, kindCode, fieldBits, readPairs_pairsBits (of_decide_eq_true range), range]
  | fillList edge positions =>
    unfold readBody kindCode
    simp [readPositions_fieldBits edge (of_decide_eq_true range), readEdge_fieldBits, range]
  | serviceRequest tag code bytes | report tag code bytes =>
    have short : bytes.length ≤ 38 := of_decide_eq_true range
    have count : byteCount (bitsOfBytes (tag :: code :: bytes)).length = (tag :: code :: bytes).length := by
      rw [length_bitsOfBytes, byteCount]
      omega
    have admits : 2 ≤ (tag :: code :: bytes).length ∧ (tag :: code :: bytes).length ≤ 40 := by
      rw [List.length_cons, List.length_cons]
      omega
    have first : readByte (bitsOfBytes (tag :: code :: bytes) ++ closing) 0 = tag :=
      readByte_bitsOfBytes _ closing 0 (by simp)
    have second : readByte (bitsOfBytes (tag :: code :: bytes) ++ closing) 8 = code :=
      readByte_bitsOfBytes _ closing 1 (by simp)
    have others := readBytes_bitsOfBytes (tag :: code :: bytes) closing 2
    rw [fieldBits, count]
    refine (if_pos admits).trans ?_
    rw [first, second, others]
    rfl

end Bodies

/-! ## A whole notice (section 9.2, R156) -/

section Notices

/-- The bits of a notice field by field, with the payload's length in bytes. -/
theorem uncheckedBits_eq (n : Notice) : uncheckedBits n =
    bitsOfNat 4 (kindCode n.body) ++ (posBits n.src ++ (posBits n.dst ++
      (bitsOfNat 6 (byteCount (fieldBits n.body).length) ++ closeBits (fieldBits n.body)))) := by
  unfold uncheckedBits
  dsimp only
  rw [length_closeBits, Nat.mul_div_cancel_left _ (by decide)]
  simp only [List.append_assoc]

theorem length_uncheckedBits (n : Notice) :
    (uncheckedBits n).length = 36 + 8 * byteCount (fieldBits n.body).length := by
  rw [uncheckedBits_eq]
  simp only [List.length_append, length_bitsOfNat, length_posBits, length_closeBits]
  omega

/-- Bits of the right length, with the right check and a payload that its kind and length admit, are a well-formed notice (R155, R156). -/
theorem readNotice_eq {bits : List Bool} {length : Nat} {body : NoticeBody} (counts : natSlice bits 30 6 = length)
    (whole : bits.length = 44 + 8 * length) (check : crc8 (bits.take (36 + 8 * length)) = readByte bits (36 + 8 * length))
    (carries : readBody (natSlice bits 0 4) length (bitSlice bits 36 (8 * length)) = some body) :
    readNotice bits = some ⟨readPos bits 4, readPos bits 17, body⟩ := by
  unfold readNotice
  dsimp only
  rw [counts, if_neg (not_not.mpr whole), if_neg (not_not.mpr check), carries]
  rfl

theorem kindCode_lt (body : NoticeBody) : kindCode body < 16 := by cases body <;> simp [kindCode]

variable (n : Notice)

/-- The bits of a notice as sent: its header's fields, its payload and its check. -/
theorem noticeBits_eq : noticeBits n =
    bitsOfNat 4 (kindCode n.body) ++ (bitsOfNat 7 n.src.col.val ++ (bitsOfNat 6 n.src.row.val ++
      (bitsOfNat 7 n.dst.col.val ++ (bitsOfNat 6 n.dst.row.val ++
        (bitsOfNat 6 (byteCount (fieldBits n.body).length) ++
          (closeBits (fieldBits n.body) ++ bitsOfByte (crc8 (uncheckedBits n)))))))) := by
  refine (congrArg (· ++ bitsOfByte (crc8 (uncheckedBits n))) (uncheckedBits_eq n)).trans ?_
  simp only [posBits, List.append_assoc]

theorem length_noticeBits : (noticeBits n).length = 44 + 8 * byteCount (fieldBits n.body).length := by
  rw [noticeBits, List.length_append, length_uncheckedBits, length_bitsOfByte]
  omega

theorem natSlice_noticeBits_kind : natSlice (noticeBits n) 0 4 = kindCode n.body := by
  rw [noticeBits_eq, natSlice_field]
  exact Nat.mod_eq_of_lt (kindCode_lt n.body)

theorem natSlice_noticeBits_length (range : countInRange n.body = true) :
    natSlice (noticeBits n) 30 6 = byteCount (fieldBits n.body).length := by
  simpa [noticeBits_eq] using Nat.mod_eq_of_lt (byteCount_fieldBits range)

theorem readPos_noticeBits_src : readPos (noticeBits n) 4 = n.src :=
  readPos_eq (by simp [noticeBits_eq]) (by simp [noticeBits_eq])

theorem readPos_noticeBits_dst : readPos (noticeBits n) 17 = n.dst :=
  readPos_eq (by simp [noticeBits_eq]) (by simp [noticeBits_eq])

theorem bitSlice_noticeBits_payload :
    bitSlice (noticeBits n) 36 (8 * byteCount (fieldBits n.body).length) = closeBits (fieldBits n.body) := by
  rw [← length_closeBits]
  simpa [noticeBits_eq] using bitSlice_first (closeBits (fieldBits n.body)) _

/-- The check that a notice closes with is that of the bits before it (R156). -/
theorem check_noticeBits : crc8 ((noticeBits n).take (36 + 8 * byteCount (fieldBits n.body).length)) =
    readByte (noticeBits n) (36 + 8 * byteCount (fieldBits n.body).length) := by
  rw [← length_uncheckedBits, noticeBits, List.take_left]
  refine (readByte_eq ?_).symm
  rw [natSlice, bitSlice_append_right le_rfl, Nat.sub_self]
  exact (natSlice_whole 8 _).trans (Nat.mod_eq_of_lt (crc8 (uncheckedBits n)).isLt)

end Notices

/-- Settles O46: the header's fields, the payload and the check are each read at the place they are sent in. -/
theorem noticeBitsReadBack : Obligations.NoticeBitsReadBack := by
  intro n range
  have carries : readBody (natSlice (noticeBits n) 0 4) (byteCount (fieldBits n.body).length)
      (bitSlice (noticeBits n) 36 (8 * byteCount (fieldBits n.body).length)) = some n.body := by
    rw [natSlice_noticeBits_kind, bitSlice_noticeBits_payload]
    exact readBody_fieldBits range _
  have read := readNotice_eq (natSlice_noticeBits_length n range) (length_noticeBits n) (check_noticeBits n) carries
  rwa [readPos_noticeBits_src, readPos_noticeBits_dst] at read

end Sys2Proof.Machine
end

section
/-! The load before the retired list: the store polled, the configuration record and the calibration area (R167, R169 to R173). -/

namespace Sys2Proof.Machine

/-! ## The store polled (R170) -/

theorem loadsAt_iff (s : State) (phase : LoadPhase) :
    s.loadsAt phase = true ↔ s.mode = .loading ∧ s.loadPhase = phase := decide_eq_true_iff

/-- Settles O6: both answers are taken while the store is polled, and not otherwise. -/
theorem storePolledAtLoad : Obligations.StorePolledAtLoad := by
  intro s
  constructor
  · intro loading at_
    have polls := (loadsAt_iff s .pollStore).mpr ⟨loading, at_⟩
    exact ⟨congrArg Host.Outcome.next (if_pos polls), congrArg Host.Outcome.next (if_pos polls)⟩
  · intro elsewhere
    have polls := mt (loadsAt_iff s .pollStore).mp elsewhere
    exact ⟨congrArg Host.Outcome.next (if_neg polls), congrArg Host.Outcome.next (if_neg polls)⟩

/-! ## The configuration record (R169, R171, R172) -/

theorem clampTo_eq_nearest {low high : Nat} (h : low ≤ high) (v : Nat) : clampTo low high v = nearest low high v := by
  unfold clampTo nearest
  split_ifs <;> omega

/-- The two thresholds, each first clamped by itself (R172). -/
theorem clampThresholds_eq (dead weak : Nat) : clampThresholds dead weak =
    if nearest 1 15 dead < nearest 1 15 weak then (nearest 1 15 dead, nearest 1 15 weak)
    else if nearest 1 15 dead = 15 then (14, 15) else (nearest 1 15 dead, nearest 1 15 dead + 1) := by
  unfold clampThresholds
  rw [clampTo_eq_nearest (by decide), clampTo_eq_nearest (by decide)]

/-- The format word is spelled by the first two bytes (R169, R171). -/
theorem recordFormat_iff (bytes : Tbl 32 Byte) :
    recordFormat bytes = Config.formatWord ↔ bytes.get 0 = 0x32#8 ∧ bytes.get 1 = 0x01#8 := by
  have := (bytes.get 1).isLt
  rw [← BitVec.toNat_inj, ← BitVec.toNat_inj]
  simp only [recordFormat, be16, Config.formatWord, BitVec.toNat_ofNat]
  omega

theorem readRecord_lending (bytes : Tbl 32 Byte) : (readRecord bytes).lending = true ↔ bytes.get 18 = 1#8 := by
  rw [← BitVec.toNat_inj]
  exact decide_eq_true_iff

/-- A record read while the load waits for it. -/
theorem exec_configRecordRead (bytes : Tbl 32 Byte) {s : State} (loading : s.mode = .loading)
    (at_ : s.loadPhase = .configuration) : exec (.configRecordRead bytes) s = .next (takeRecord bytes s) :=
  congrArg Host.Outcome.next (if_pos ((loadsAt_iff s .configuration).mpr ⟨loading, at_⟩))

/-- Settles O7: the fields are those of the record as the model reads it, its clamp being the nearer end. -/
theorem configurationFieldsClamped : Obligations.ConfigurationFieldsClamped := by
  intro bytes s loading at_ first second dead weak
  have taken : takeRecord bytes s = _ := if_pos ((recordFormat_iff bytes).mpr ⟨first, second⟩)
  have thresholds := clampThresholds_eq (bytes.get 4).toNat (bytes.get 5).toNat
  refine ⟨readRecord bytes, by rw [exec_configRecordRead bytes loading at_, taken], clampTo_eq_nearest (by decide) _,
    clampTo_eq_nearest (by decide) _, fun apart => ?_, fun meet below => ?_, fun meet top => ?_,
    clampTo_eq_nearest (by decide) _, clampTo_eq_nearest (by decide) _, clampTo_eq_nearest (by decide) _,
    clampTo_eq_nearest (by decide) _, clampTo_eq_nearest (by decide) _, clampTo_eq_nearest (by decide) _,
    clampTo_eq_nearest (by decide) _, clampTo_eq_nearest (by decide) _, clampTo_eq_nearest (by decide) _,
    readRecord_lending bytes⟩
  · rw [if_pos apart] at thresholds
    exact Prod.mk.inj thresholds
  · rw [if_neg (Nat.not_lt.mpr meet), if_neg (Nat.ne_of_lt below)] at thresholds
    exact Prod.mk.inj thresholds
  · rw [if_neg (Nat.not_lt.mpr meet), if_pos top] at thresholds
    exact Prod.mk.inj thresholds

/-- Settles O8: a record of any other format word is not used. -/
theorem configurationDefaults : Obligations.ConfigurationDefaults := by
  intro bytes s loading at_ other
  rw [exec_configRecordRead bytes loading at_]
  exact congrArg Host.Outcome.next (if_neg (mt (recordFormat_iff bytes).mp other))

/-! ## The calibration area (R173) -/

theorem calibrationValue_eq (bytes : Tbl 7681 Byte) (n : Nat) : calibrationValue bytes n =
    nearest 0 4095 (256 * (bytes.data.getD (2 * n) 0).toNat + (bytes.data.getD (2 * n + 1) 0).toNat) :=
  (Nat.zero_max _).symm.trans (clampTo_eq_nearest (Nat.zero_le _) _)

@[simp] theorem Rgb_get_ofFn {α : Type} (f : Colour → α) (k : Colour) : (Rgb.ofFn f).get k = f k := by cases k <;> rfl

@[simp] theorem Rgb_get_all {α : Type} (a : α) (k : Colour) : (Rgb.all a).get k = a := by cases k <;> rfl

theorem readCalibration_cell (bytes : Tbl 7681 Byte) (n : Fin 1024) (k : Colour) :
    ((readCalibration bytes).cells.get n).get k = calibrationValue bytes (3 * n.val + k.index) := by
  simp [readCalibration]

theorem readCalibration_site (bytes : Tbl 7681 Byte) (n : Fin 256) (k : Colour) :
    ((readCalibration bytes).sites.get n).get k = calibrationValue bytes (3072 + 3 * n.val + k.index) := by
  simp [readCalibration]

theorem default512_cell (n : Fin 1024) (k : Colour) : (Calibration.default512.cells.get n).get k = 512 := by
  simp [Calibration.default512]

theorem default512_site (n : Fin 256) (k : Colour) : (Calibration.default512.sites.get n).get k = 512 := by
  simp [Calibration.default512]

/-- Settles O9: the values of the area when its check matches, the default calibration when it does not. -/
theorem calibrationTaken : Obligations.CalibrationTaken := by
  intro bytes s loading at_ good value
  have taken : exec (.calibrationAreaRead bytes) s = .next (takeCalibration bytes s) :=
    congrArg Host.Outcome.next (if_pos ((loadsAt_iff s .calibration).mpr ⟨loading, at_⟩))
  have same : calibrationMatches bytes = good := rfl
  rw [taken, takeCalibration, same]
  cases good with
  | true =>
    exact ⟨readCalibration bytes, rfl,
      fun n k => (readCalibration_cell bytes n k).trans (calibrationValue_eq bytes _),
      fun n k => (readCalibration_site bytes n k).trans (calibrationValue_eq bytes _)⟩
  | false => exact ⟨Calibration.default512, rfl, default512_cell, default512_site⟩

/-- The check of bytes of 0 is 0: the register never leaves its start value. -/
theorem crc8_zeros (n : Nat) : crc8 (bitsOfBytes (List.replicate n 0)) = 0#8 := by
  induction n with
  | zero => rfl
  | succ n ih =>
    have byte : (bitsOfByte 0).foldl crcStep 0#8 = 0#8 := by decide
    rw [List.replicate_succ, bitsOfBytes, List.flatMap_cons, crc8, List.foldl_append, byte]
    exact ih

/-- An area whose check matches: all zeros. -/
theorem calibrationMatches_zeros : calibrationMatches (Tbl.fill 7681 0) = true := by
  refine decide_eq_true ?_
  rw [Tbl.get_fill, Tbl.fill, List.take_replicate]
  exact crc8_zeros _

end Sys2Proof.Machine
end

section
/-! The Store Interface: its slot map and pending write list, and how a write or an erase begins and ends (R169, R170, R177 to R180). -/

namespace Sys2Proof.Machine

/-! ## The slot map (R174, R177) -/

section SlotMap

variable {st : Store} {c : Cell} {slot : Fin 128}

/-- The first place of a table where a test is met. -/
theorem find?_finRange_eq_some {n : Nat} {p : Fin n → Bool} {i : Fin n} (here : p i = true)
    (below : ∀ lower < i, p lower = false) : (List.finRange n).find? p = some i := by
  refine List.find?_eq_some_iff_getElem.mpr ⟨here, i.val, by simp, by simp, fun j hj => ?_⟩
  simpa using below ⟨j, hj.trans i.isLt⟩ hj

theorem liveSlot_eq_none_iff : st.liveSlot c = none ↔ ∀ slot, st.slots.get slot ≠ .live c := by
  simp [Store.liveSlot, List.find?_eq_none]

theorem liveSlot_isSome_iff : (st.liveSlot c).isSome = true ↔ ∃ slot, st.slots.get slot = .live c := by
  simp [Store.liveSlot, List.find?_isSome]

theorem liveSlot_eq_some (holds : st.slots.get slot = .live c) (lowest : ∀ lower < slot, st.slots.get lower ≠ .live c) :
    st.liveSlot c = some slot :=
  find?_finRange_eq_some (decide_eq_true holds) fun lower h => decide_eq_false (lowest lower h)

theorem emptySlot_eq_none_iff : st.emptySlot = none ↔ ∀ slot, st.slots.get slot ≠ .empty := by
  simp [Store.emptySlot, List.find?_eq_none]

theorem emptySlot_eq_some (holds : st.slots.get slot = .empty) (lowest : ∀ lower < slot, st.slots.get lower ≠ .empty) :
    st.emptySlot = some slot :=
  find?_finRange_eq_some (decide_eq_true holds) fun lower h => decide_eq_false (lowest lower h)

end SlotMap

/-! ## The pending write list (R170, R177, R179) -/

section PendingWrites

variable {s : State} {c : Cell} {ops : List PendingWrite}

theorem storeMissing_iff (s : State) : s.storeMissing = true ↔ s.store.state = .missing := decide_eq_true_iff

theorem appends_iff {op : PendingWrite} : op.appends c = true ↔ ∃ o, op = .append c o := by
  cases op <;> simp [PendingWrite.appends]

theorem any_appends_iff : ops.any (PendingWrite.appends c) = true ↔ ∃ o, PendingWrite.append c o ∈ ops := by
  simp only [List.any_eq_true, appends_iff]
  exact ⟨fun ⟨_, mem, o, is⟩ => ⟨o, is ▸ mem⟩, fun ⟨o, mem⟩ => ⟨_, mem, o, rfl⟩⟩

/-- The append taken out is the last one of its cell (R179). -/
theorem removeLastAppend_eq (older : List PendingWrite) (o : Origin) {newer : List PendingWrite}
    (last : ∀ o', PendingWrite.append c o' ∉ newer) :
    removeLastAppend c (older ++ .append c o :: newer) = older ++ newer := by
  have none : ∀ op ∈ newer.reverse, ¬ op.appends c = true := by
    intro op mem is
    obtain ⟨o', rfl⟩ := appends_iff.mp is
    exact last o' (List.mem_reverse.mp mem)
  have here : (PendingWrite.append c o).appends c = true := appends_iff.mpr ⟨o, rfl⟩
  rw [removeLastAppend, List.reverse_append, List.reverse_cons, List.append_assoc,
    List.eraseP_append_right _ none, List.singleton_append, List.eraseP_cons_of_pos here, List.reverse_append,
    List.reverse_reverse, List.reverse_reverse]

theorem queueWrite_room (op : PendingWrite) (room : s.store.pendingWrites.length < 8) : queueWrite op s =
    { s with store := { s.store with pendingWrites := s.store.pendingWrites ++ [op] } } := if_pos room

theorem queueWrite_full (op : PendingWrite) (full : 8 ≤ s.store.pendingWrites.length) :
    queueWrite op s = s.raise .storeFull := if_neg (Nat.not_lt.mpr full)

theorem storeAppend_missing (missing : s.store.state = .missing) (o : Origin) : storeAppend c o s = s :=
  if_pos ((storeMissing_iff s).mpr missing)

theorem storeAppend_present (present : s.store.state ≠ .missing) (o : Origin) :
    storeAppend c o s = queueWrite (.append c o) s := if_neg (mt (storeMissing_iff s).mp present)

theorem storeRemoval_missing (missing : s.store.state = .missing) : storeRemoval c s = s :=
  if_pos ((storeMissing_iff s).mpr missing)

theorem storeRemoval_cancels (present : s.store.state ≠ .missing)
    (queued : ∃ o, PendingWrite.append c o ∈ s.store.pendingWrites) : storeRemoval c s =
    { s with store := { s.store with pendingWrites := removeLastAppend c s.store.pendingWrites } } := by
  rw [storeRemoval, if_neg (mt (storeMissing_iff s).mp present), if_pos (any_appends_iff.mpr queued)]

theorem storeRemoval_unstored (present : s.store.state ≠ .missing)
    (unqueued : ∀ o, PendingWrite.append c o ∉ s.store.pendingWrites) (unstored : s.store.liveSlot c = none) :
    storeRemoval c s = s := by
  rw [storeRemoval, if_neg (mt (storeMissing_iff s).mp present),
    if_neg (mt any_appends_iff.mp (not_exists.mpr unqueued)), unstored]

theorem storeRemoval_stored (present : s.store.state ≠ .missing)
    (unqueued : ∀ o, PendingWrite.append c o ∉ s.store.pendingWrites) {slot : Fin 128}
    (stored : s.store.liveSlot c = some slot) : storeRemoval c s = queueWrite (.void slot) s := by
  rw [storeRemoval, if_neg (mt (storeMissing_iff s).mp present),
    if_neg (mt any_appends_iff.mp (not_exists.mpr unqueued)), stored]

end PendingWrites

/-- Settles O52: an append is queued or refused; a removal cancels, queues a void, or has nothing to do. -/
theorem pendingWriteList : Obligations.PendingWriteList := by
  intro c o s with_ full
  refine ⟨fun missing => ⟨storeAppend_missing missing o, storeRemoval_missing missing⟩, fun present => ?_⟩
  refine ⟨fun room => ?_, fun noRoom => ?_, fun older o' newer queue last => ?_,
    fun unqueued => ⟨fun unstored => ?_, fun slot holds lowest => ?_⟩⟩
  · rw [storeAppend_present present, queueWrite_room _ room]
  · rw [storeAppend_present present, queueWrite_full _ noRoom]
    rfl
  · rw [storeRemoval_cancels present ⟨o', by simp [queue]⟩, queue, removeLastAppend_eq older o' last]
  · exact storeRemoval_unstored present unqueued (liveSlot_eq_none_iff.mpr unstored)
  · rw [storeRemoval_stored present unqueued (liveSlot_eq_some holds lowest)]
    exact ⟨queueWrite_room _, queueWrite_full _⟩

/-! ## Later operations for a cell (R178; log entry 21) -/

section Completion

variable {s : State} {c : Cell}

theorem concerns_iff {st : Store} {op : PendingWrite} : op.concerns st c = true ↔
    (∃ o, op = .append c o) ∨ ∃ slot, op = .void slot ∧ st.slots.get slot = .live c := by
  cases op <;> simp [PendingWrite.concerns]

theorem laterOperation_iff (st : Store) (c : Cell) : st.laterOperation c = true ↔
    (∃ o, PendingWrite.append c o ∈ st.pendingWrites) ∨
      (∃ slot, PendingWrite.void slot ∈ st.pendingWrites ∧ st.slots.get slot = .live c) ∨ c ∈ st.rewrite := by
  rw [Store.laterOperation, Bool.or_eq_true, List.contains_iff_mem, ← or_assoc]
  refine or_congr_left ?_
  simp only [List.any_eq_true, concerns_iff]
  constructor
  · rintro ⟨_, mem, ⟨o, rfl⟩ | ⟨slot, rfl, holds⟩⟩
    · exact .inl ⟨o, mem⟩
    · exact .inr ⟨slot, mem, holds⟩
  · rintro (⟨o, mem⟩ | ⟨slot, mem, holds⟩)
    · exact ⟨_, mem, .inl ⟨o, rfl⟩⟩
    · exact ⟨_, mem, .inr ⟨slot, rfl, holds⟩⟩

theorem completeAppend_last (last : s.store.laterOperation c = false) :
    completeAppend c s = { s with entries := changeEntry c (fun e => e.withPersisted true) s.entries } :=
  if_neg (by simp [last])

theorem completeAppend_later (later : s.store.laterOperation c = true) : completeAppend c s = s := if_pos later

end Completion

/-! ## A write begins (R177, R180) -/

section Begins

variable {s : State} {c : Cell}

theorem beginAppend_stored {slot : Fin 128} (holds : s.store.slots.get slot = .live c) (o : Origin) :
    beginAppend c o s = completeAppend c s := by
  obtain ⟨_, found⟩ := Option.isSome_iff_exists.mp (liveSlot_isSome_iff.mpr ⟨slot, holds⟩)
  rw [beginAppend, found]

theorem beginAppend_written {slot : Fin 128} (unstored : ∀ other, s.store.slots.get other ≠ .live c)
    (empty : s.store.slots.get slot = .empty) (lowest : ∀ lower < slot, s.store.slots.get lower ≠ .empty) (o : Origin) :
    beginAppend c o s = { s with store := { s.store with
      state := .writing, slots := s.store.slots.set slot (.live c),
      job := some (.append c o slot), jobTimer := some 0 } } := by
  rw [beginAppend, liveSlot_eq_none_iff.mpr unstored, emptySlot_eq_some empty lowest]

theorem beginAppend_dropped (unstored : ∀ other, s.store.slots.get other ≠ .live c)
    (full : ∀ other, s.store.slots.get other ≠ .empty) (o : Origin) :
    beginAppend c o s = s.raise .storeFull := by
  rw [beginAppend, liveSlot_eq_none_iff.mpr unstored, emptySlot_eq_none_iff.mpr full]

theorem passedOver_iff : s.passedOver c = true ↔ s.retiredEntry c = none ∨ ∃ slot, s.store.slots.get slot = .live c := by
  rw [State.passedOver, Bool.or_eq_true, Option.isNone_iff_eq_none, liveSlot_isSome_iff]

theorem rewriteOrigin_some {e : Entry} (entry : s.retiredEntry c = some e) :
    s.rewriteOrigin c = if e.origin = .marked then .marked else .detected := by
  rw [State.rewriteOrigin, entry]

/-- The state with what remains to be written. -/
def State.waiting (s : State) (rewrite : List Cell) (ops : List PendingWrite) : State :=
  { s with store := { s.store with rewrite := rewrite, pendingWrites := ops } }

theorem beginWrite_unready (unready : ¬ (s.mode = .run ∧ s.store.state = .idle)) : beginWrite s = s := if_neg unready

variable (ready : s.mode = .run ∧ s.store.state = .idle)

include ready

/-- The rewrite list goes first, from its first cell that is not passed over (R180). -/
theorem beginWrite_rewrite {passed rest : List Cell} (list : s.store.rewrite = passed ++ c :: rest)
    (skipped : ∀ x ∈ passed, s.passedOver x = true) (stays : ¬ s.passedOver c = true) :
    beginWrite s = beginAppend c (s.rewriteOrigin c) (s.waiting rest s.store.pendingWrites) := by
  rw [beginWrite, if_pos ready, list, List.dropWhile_append_of_pos skipped, List.dropWhile_cons_of_neg stays]
  rfl

variable (skipped : ∀ x ∈ s.store.rewrite, s.passedOver x = true) {rest : List PendingWrite}

include skipped

theorem beginWrite_append {o : Origin} (queue : s.store.pendingWrites = .append c o :: rest) :
    beginWrite s = beginAppend c o (s.waiting [] rest) := by
  rw [beginWrite, if_pos ready, List.dropWhile_eq_nil_iff.mpr skipped, queue]
  rfl

theorem beginWrite_void {slot : Fin 128} (queue : s.store.pendingWrites = .void slot :: rest) :
    beginWrite s = beginVoid slot (s.waiting [] rest) := by
  rw [beginWrite, if_pos ready, List.dropWhile_eq_nil_iff.mpr skipped, queue]
  rfl

theorem beginWrite_nothing (queue : s.store.pendingWrites = []) : beginWrite s = s.waiting [] [] := by
  have same : s.waiting [] s.store.pendingWrites = s.waiting [] [] := by rw [queue]
  rw [beginWrite, if_pos ready, List.dropWhile_eq_nil_iff.mpr skipped, queue]
  exact same

end Begins

/-- Settles O53: what begins is the front of the rewrite list or of the pending list, and an append begins in one of three ways. -/
theorem writeBegins : Obligations.WriteBegins := by
  refine ⟨laterOperation_iff, fun s => ?_⟩
  intro skipped waiting
  have passes {cells : List Cell} (h : ∀ x ∈ cells, skipped x) : ∀ x ∈ cells, s.passedOver x = true :=
    fun x mem => passedOver_iff.mpr (h x mem)
  refine ⟨fun unready => congrArg Host.Outcome.next (beginWrite_unready unready), fun run idle => ?_⟩
  have ready : s.mode = .run ∧ s.store.state = .idle := ⟨run, idle⟩
  refine ⟨fun all queue => congrArg Host.Outcome.next (beginWrite_nothing ready (passes all) queue),
    fun slot rest all queue => congrArg Host.Outcome.next (beginWrite_void ready (passes all) queue),
    fun c o u source => ?_⟩
  have begins : (∃ rewrite ops, u = s.waiting rewrite ops) ∧ beginWrite s = beginAppend c o u := by
    rcases source with ⟨all, rest, queue, rfl⟩ | ⟨passed, rest, e, list, before, stays, entry, rfl, rfl⟩
    · exact ⟨⟨_, _, rfl⟩, beginWrite_append ready (passes all) queue⟩
    · refine ⟨⟨_, _, rfl⟩, ?_⟩
      rw [← rewriteOrigin_some entry]
      exact beginWrite_rewrite ready list (passes before) (mt passedOver_iff.mp stays)
  obtain ⟨⟨rewrite, ops, rfl⟩, begins⟩ := begins
  have exec_eq {t : State} (h : beginAppend c o (s.waiting rewrite ops) = t) : exec .storeWriteBegin s = .next t :=
    congrArg Host.Outcome.next (begins.trans h)
  refine ⟨fun slot unstored empty lowest =>
      exec_eq (beginAppend_written (s := s.waiting rewrite ops) unstored empty lowest o),
    fun unstored full => exec_eq (beginAppend_dropped (s := s.waiting rewrite ops) unstored full o),
    fun slot holds => ?_⟩
  have stored := beginAppend_stored (s := s.waiting rewrite ops) holds o
  exact ⟨fun last => exec_eq (stored.trans (completeAppend_last last)),
    fun later => exec_eq (stored.trans (completeAppend_later later))⟩

/-! ## The bytes of a slot (R169) -/

section SlotBytes

/-- Two fields one behind the other are one field of both widths. -/
theorem bitsOfNat_join (a b x : Nat) {y : Nat} (h : y < 2 ^ b) :
    bitsOfNat a x ++ bitsOfNat b y = bitsOfNat (a + b) (2 ^ b * x + y) := by
  induction b generalizing y with
  | zero =>
    obtain rfl : y = 0 := by omega
    simp [bitsOfNat]
  | succ b ih =>
    have half : (2 ^ (b + 1) * x + y) / 2 = 2 ^ b * x + y / 2 := by
      rw [Nat.pow_succ', Nat.mul_assoc]
      omega
    have last : (2 ^ (b + 1) * x + y).testBit 0 = y.testBit 0 := by
      rw [Nat.testBit_zero, Nat.testBit_zero, Nat.pow_succ', Nat.mul_assoc, Nat.mul_add_mod]
    rw [bitsOfNat_append b, ← List.append_assoc, ih (by rw [Nat.pow_succ'] at h; omega), ← Nat.add_assoc,
      bitsOfNat_append (a + b), half, last]

/-- A 16-bit field packed into its two bytes. -/
theorem bytesOfBits_bitsOfNat_16 (word : Nat) (h : word < 65536) :
    bytesOfBits (bitsOfNat 16 word) = [BitVec.ofNat 8 (word / 256), BitVec.ofNat 8 (word % 256)] := by
  have halves : closeBits (bitsOfNat 16 word) = bitsOfNat 8 (word / 256) ++ bitsOfNat 8 (word % 256) := by
    rw [closeBits_eq, length_bitsOfNat, bitsOfNat_join 8 8 _ (y := word % 256) (Nat.mod_lt _ (by decide)),
      show 2 ^ 8 * (word / 256) + word % 256 = word from Nat.div_add_mod word 256]
    exact List.append_nil _
  have high : byteAt (bitsOfNat 16 word) 0 = BitVec.ofNat 8 (word / 256) := by
    rw [byteAt, halves]
    change BitVec.ofNat 8 (natSlice _ 0 8) = _
    rw [natSlice_field, Nat.mod_eq_of_lt (by omega)]
  have low : byteAt (bitsOfNat 16 word) 1 = BitVec.ofNat 8 (word % 256) := by
    rw [byteAt, halves]
    change BitVec.ofNat 8 (natSlice _ 8 8) = _
    rw [natSlice_skip le_rfl, natSlice_whole, Nat.mod_eq_of_lt (by omega)]
  rw [bytesOfBits, length_bitsOfNat]
  exact congrArg₂ (fun a b => [a, b]) high low

/-- Cell, origin and closing bits as one 16-bit number (R169). -/
def slotWord (c : Cell) (o : Origin) : Nat :=
  64 * (32 * c.y.val + c.x.val) + 16 * (if o = .marked then 1 else 0)

theorem slotBits_eq (c : Cell) (o : Origin) : slotBits c o = bitsOfNat 16 (slotWord c o) := by
  have code : originCode o = if o = .marked then 1 else 0 := by cases o <;> rfl
  rw [slotBits, code, bitsOfNat_join 10 2 _ (by split <;> decide), bitsOfNat_join 12 4 _ (by decide)]
  refine congrArg (bitsOfNat 16) ?_
  simp only [slotWord, Cell.index]
  omega

theorem slotBytes_eq (c : Cell) (o : Origin) : slotBytes c o = [0xA5#8, BitVec.ofNat 8 (slotWord c o / 256),
    BitVec.ofNat 8 (slotWord c o % 256), crc8 (bitsOfNat 16 (slotWord c o))] := by
  have small : slotWord c o < 65536 := by
    unfold slotWord
    split <;> omega
  rw [slotBytes, slotBits_eq, bytesOfBits_bitsOfNat_16 _ small]
  rfl

end SlotBytes

/-! ## A write or an erase ends (R178, R180) -/

section Ends

variable {s : State} {c : Cell} {o : Origin} {slot : Fin 128} {readBack : Tbl 4 Byte}

/-- A write ends as its report and the slot read back say (R178). -/
theorem exec_storeWriteEnd {t : State} {error completed : Bool} (writing : s.store.state = .writing)
    (result : s.writeCompleted error readBack = completed) (ends : endWrite completed s = t) :
    exec (.storeWriteEnd error readBack) s = .next t := by
  subst result ends
  exact congrArg Host.Outcome.next (if_pos writing)

/-- A time limit and an error reported are one and the same end (R178). -/
theorem exec_storeWrite_fails {t : State} (writing : s.store.state = .writing) (ends : endWrite false s = t)
    (error : Bool) (readBack : Tbl 4 Byte) :
    exec .storeWriteTimeout s = .next t ∧ (error = true → exec (.storeWriteEnd error readBack) s = .next t) := by
  refine ⟨?_, fun reported => exec_storeWriteEnd writing (by rw [reported]; rfl) ends⟩
  subst ends
  exact congrArg Host.Outcome.next (if_pos writing)

/-- An append is read back whole (R178). -/
theorem writeCompleted_append (job : s.store.job = some (.append c o slot)) :
    s.writeCompleted false readBack = decide (readBack.data = slotBytes c o) := by
  have whole : readBack.data.take (slotBytes c o).length = readBack.data :=
    List.take_of_length_le (by rw [readBack.len, slotBytes_eq]; rfl)
  rw [State.writeCompleted, job]
  show decide (readBack.data.take (slotBytes c o).length = slotBytes c o) = _
  rw [whole]

/-- Of a void the marking alone is read back (R178; log entry 15). -/
theorem writeCompleted_void (job : s.store.job = some (.void slot)) :
    s.writeCompleted false readBack = decide (readBack.get 0 = 0x00#8) := by
  have marking : readBack.data.take 1 = [readBack.get 0] := by
    rw [Tbl.data_eq_map]
    rfl
  rw [State.writeCompleted, job]
  show decide (readBack.data.take 1 = [markingVoid]) = _
  rw [marking]
  simp [markingVoid]

theorem endWrite_append_failed (job : s.store.job = some (.append c o slot)) : endWrite false s =
    eraseIfWaiting
      ({ s with store := { s.store.jobEnded with slots := s.store.slots.set slot .void } }.raise .storeFault) := by
  rw [endWrite, job]
  rfl

theorem endWrite_append_last (job : s.store.job = some (.append c o slot))
    (last : s.store.laterOperation c = false) : endWrite true s =
    eraseIfWaiting { s with
      store := s.store.jobEnded, entries := changeEntry c (fun e => e.withPersisted true) s.entries } := by
  rw [endWrite, job]
  exact congrArg eraseIfWaiting (completeAppend_last (s := { s with store := s.store.jobEnded }) last)

theorem endWrite_append_later (job : s.store.job = some (.append c o slot))
    (later : s.store.laterOperation c = true) : endWrite true s =
    eraseIfWaiting { s with store := s.store.jobEnded } := by
  rw [endWrite, job]
  exact congrArg eraseIfWaiting (completeAppend_later (s := { s with store := s.store.jobEnded }) later)

theorem endWrite_void_failed (job : s.store.job = some (.void slot)) :
    endWrite false s = eraseIfWaiting ({ s with store := s.store.jobEnded }.raise .storeFault) := by
  rw [endWrite, job]
  rfl

theorem endWrite_void_completed (job : s.store.job = some (.void slot)) : endWrite true s =
    eraseIfWaiting { s with store := { s.store.jobEnded with slots := s.store.slots.set slot .void } } := by
  rw [endWrite, job]
  rfl

end Ends

/-- Settles O54: an append or a void ends by what is read back of it, an error and a time limit alike; then the erase that waited begins. -/
theorem storeOperationEnds : Obligations.StoreOperationEnds := by
  refine ⟨slotBytes_eq, fun error readBack s => ?_⟩
  intro ended fault thenErase failed answers
  refine ⟨fun idle => ⟨congrArg Host.Outcome.next (if_neg idle), congrArg Host.Outcome.next (if_neg idle)⟩,
    fun idle => ⟨congrArg Host.Outcome.next (if_neg idle), congrArg Host.Outcome.next (if_neg idle)⟩,
    fun writing => ⟨fun c o slot job => ?_, fun slot job => ?_⟩, fun erasing => ?_⟩
  · have read (good : error = false) : s.writeCompleted error readBack = decide (readBack.data = slotBytes c o) := by
      rw [good, writeCompleted_append job]
    exact ⟨exec_storeWrite_fails writing (endWrite_append_failed job) error readBack,
      fun good differs => exec_storeWriteEnd writing ((read good).trans (decide_eq_false differs))
        (endWrite_append_failed job),
      fun good same last => exec_storeWriteEnd writing ((read good).trans (decide_eq_true same))
        (endWrite_append_last job last),
      fun good same later => exec_storeWriteEnd writing ((read good).trans (decide_eq_true same))
        (endWrite_append_later job later)⟩
  · have read (good : error = false) : s.writeCompleted error readBack = decide (readBack.get 0 = 0x00#8) := by
      rw [good, writeCompleted_void job]
    exact ⟨exec_storeWrite_fails writing (endWrite_void_failed job) error readBack,
      fun good same => exec_storeWriteEnd writing ((read good).trans (decide_eq_true same))
        (endWrite_void_completed job),
      fun good differs => exec_storeWriteEnd writing ((read good).trans (decide_eq_false differs))
        (endWrite_void_failed job)⟩
  · have finishes (error : Bool) : exec (.storeEraseEnd error) s = .next (endErase (!error) s) :=
      congrArg Host.Outcome.next (if_pos erasing)
    refine ⟨congrArg Host.Outcome.next (if_pos erasing), ?_, ?_⟩
    · rintro rfl
      exact finishes true
    · rintro rfl
      exact finishes false

end Sys2Proof.Machine
end

section
/-! The whole of a step: the command at the front of the queue, its next state, and the waiting commands that it leaves as they are (section 95; log entry 22). -/

namespace Sys2Proof.Machine

/-- A command leaves the waiting commands as they are. -/
theorem after_pending (c : Instr) (s : State) : (s.after c).pending = s.pending :=
  (pending_kept s.pending).after c s rfl

/-- Settles O2: the next state is that of `exec_after`, and no elementary change touches the waiting commands. -/
theorem commandsAnswerNextAndKeepQueue : Obligations.CommandsAnswerNextAndKeepQueue := by
  intro c s
  exact ⟨s.after c, exec_after c s, after_pending c s⟩

/-- Settles O1: with the queue written out as front and rest, the step is its second case. -/
theorem stepRunsFrontCommand : Obligations.StepRunsFrontCommand := by
  intro c rest s
  rfl

end Sys2Proof.Machine
end
